-- ==== Sys2Proof/Word.lean ====
section
/-! DEFINITION. The word types of SMP3-FE (spec/00_scope.md R10, spec/10_state.md R24,
spec/30_encoding.md R76). Only what the spec treats as bits is a bit vector. -/

namespace Sys2Proof

/-- `Byte`, an unsigned integer 0 to 255 (R10). -/
abbrev Byte := BitVec 8

/-- `U16`, an unsigned integer 0 to 65535 (R10); the width of the checksum accumulator (R27). -/
abbrev U16 := BitVec 16

/-- `Arg`, the 32-bit field of the command port that an operation argument arrives in; its value is
the signed two's-complement reading `BitVec.toInt` (R10, R78). -/
abbrev Arg := BitVec 32

/-- A pin identifier: 16 bits, opaque (R24). -/
abbrev Pin := BitVec 16

/-- A baud-rate identifier: 32 bits, opaque (R24). -/
abbrev Baud := BitVec 32

/-- The request word Q of the command port, 72 bits (R76). -/
abbrev Request := BitVec 72

end Sys2Proof
end

