-- ==== Sys2Proof/Config.lean ====
section
/-! DEFINITION. The configuration record `CFG` (spec/00_scope.md R7, R8): what differs between device
revisions, fixed for the life of one SMP3-FE. Every constraint R7 and R8 put on a parameter is in its
type, so that every value of `Cfg` is a legal configuration and no claim needs a premise for it.
The lookups into the record (`OPC[v][k]` and the rest) are in Sys2Proof/Machine/Operands.lean. -/

namespace Sys2Proof

/-- `VARIANT`: C is checksummed, S is simple (R3, R7, R70). -/
inductive Variant where
  | C
  | S
  deriving DecidableEq, Repr, Inhabited

/-- The 14 command keys of R84, D0's fixed vocabulary of device commands. -/
inductive Key where
  | selectDevice
  | setVolume
  | playIndex
  | playMp3Folder
  | playFolderTrack
  | stop
  | pause
  | resume
  | next
  | prev
  | setEq
  | setPlayMode
  | loopFolder
  | shuffleFolder
  deriving DecidableEq, Repr, Inhabited

/-- The parameters of a Command: "an opcode (one byte) plus zero, one, or two parameter bytes" (R81). -/
inductive Params where
  | none
  | one (p : Byte)
  | two (a b : Byte)
  deriving DecidableEq, Repr, Inhabited

/-- `VOL_MAX` is 30 or 31 (R8). -/
inductive VolMax where
  | v30
  | v31
  deriving DecidableEq, Repr, Inhabited

/-- `IDX_MAX` is one of 2999, 3000, 65535 (R8). -/
inductive IdxMax where
  | i2999
  | i3000
  | i65535
  deriving DecidableEq, Repr, Inhabited

/-- The 13 OPEN bytes of `OPC[C]`; the fourteenth, `OPC[C][PLAY_FOLDER_TRACK]`, is fixed at 0x0F (R8, R84). -/
structure OpcodesC where
  selectDevice : Byte
  setVolume : Byte
  playIndex : Byte
  playMp3Folder : Byte
  stop : Byte
  pause : Byte
  resume : Byte
  next : Byte
  prev : Byte
  setEq : Byte
  setPlayMode : Byte
  loopFolder : Byte
  shuffleFolder : Byte
  deriving DecidableEq, Repr, Inhabited

/-- The 13 OPEN bytes of `OPC[S]`; the fourteenth, `OPC[S][PLAY_INDEX]`, is fixed at 0xA0 (R8, R84). -/
structure OpcodesS where
  selectDevice : Byte
  setVolume : Byte
  playMp3Folder : Byte
  playFolderTrack : Byte
  stop : Byte
  pause : Byte
  resume : Byte
  next : Byte
  prev : Byte
  setEq : Byte
  setPlayMode : Byte
  loopFolder : Byte
  shuffleFolder : Byte
  deriving DecidableEq, Repr, Inhabited

/-- `EQ_CODE[m]`, m in 0 to 5, for the six equalizer modes EQ0 to EQ5 (R7, R85). -/
structure EqCodes where
  eq0 : Byte
  eq1 : Byte
  eq2 : Byte
  eq3 : Byte
  eq4 : Byte
  eq5 : Byte
  deriving DecidableEq, Repr, Inhabited

/-- One entry of `PM_TABLE`: an opcode byte and 0 to 2 parameter bytes (R86). -/
structure PmEntry where
  cmd : Byte
  params : Params
  deriving DecidableEq, Repr, Inhabited

/-- `PM_TABLE[v]`, one entry for each of the four play modes, in the order of R85. -/
structure PmTable where
  loopOff : PmEntry
  repeatCurrent : PmEntry
  loopAll : PmEntry
  shuffle : PmEntry
  deriving DecidableEq, Repr, Inhabited

/-- The configuration record `CFG` (R7). -/
structure Cfg where
  /-- `VARIANT` -/
  variant : Variant
  /-- `VOL_MAX` -/
  volMax : VolMax
  /-- `IDX_MAX` -/
  idxMax : IdxMax
  /-- `OPC[C]` -/
  opcC : OpcodesC
  /-- `OPC[S]` -/
  opcS : OpcodesS
  /-- `SEL_PARAM[C]` -/
  selParamC : Byte
  /-- `SEL_PARAM[S]` -/
  selParamS : Byte
  /-- `EQ_CODE` -/
  eqCode : EqCodes
  /-- `PM_TABLE[C]` -/
  pmC : PmTable
  /-- `PM_TABLE[S]` -/
  pmS : PmTable
  /-- `T_INIT_MS` less 100: `T_INIT_MS` is 100 to 200 (R7) -/
  tInitOver100 : Fin 101
  /-- `T_SEL_MS`, a whole number of milliseconds (R170) -/
  tSelMs : Nat
  /-- `NPARAM_MAX`, 0 to 253 (R7, R108) -/
  nparamMax : Fin 254
  /-- `TXPIN_RST` -/
  txpinRst : Pin
  /-- `RXPIN_RST` -/
  rxpinRst : Pin
  /-- `BAUD_RST` -/
  baudRst : Baud
  deriving DecidableEq, Repr, Inhabited

/-- The straps of the one SMP3-FE that `State.reset` describes. Nothing is known of them but their
type: R7 leaves every parameter OPEN or gives it a short list of values. DESIGN CHOICE (log 1), safe. -/
opaque Config.strap : Cfg

end Sys2Proof
end

