-- ==== Sys2Proof/Machine/Operands.lean ====
section
/-! DEFINITION. Operand assembly: the byte primitives (spec/00_scope.md R11, R12), the argument ranges
(spec/30_encoding.md R80), the placement of parameters in a frame (R81), the two enumerations (R85), and
the lookups into `CFG` (R84 to R86). -/

namespace Sys2Proof.Machine

/-- `byte(v)` = v mod 256, the mathematical modulus, for any integer (R11). -/
def byte (v : Int) : Byte := BitVec.ofInt 8 v

/-- `hi8(v)` = `byte(floor(v / 256))` (R11). -/
def hi8 (v : Int) : Byte := byte (v / 256)

/-- `lo8(v)` = `byte(v)` (R11). -/
def lo8 (v : Int) : Byte := byte v

/-- `clamp(v, lo, hi)` for lo <= hi, signed comparisons (R12). -/
def clamp (v lo hi : Int) : Int :=
  if v < lo then lo else if hi < v then hi else v

/-- `VOL_MAX` (R7, R8). -/
def volMax (c : Cfg) : Int :=
  match c.volMax with
  | .v30 => 30
  | .v31 => 31

/-- `IDX_MAX` (R7, R8). -/
def idxMax (c : Cfg) : Int :=
  match c.idxMax with
  | .i2999 => 2999
  | .i3000 => 3000
  | .i65535 => 65535

/-- `T_INIT_MS`, 100 to 200 (R7). -/
def tInitMs (c : Cfg) : Nat := 100 + c.tInitOver100.val

/-- `T_SEL_MS` (R7). -/
def tSelMs (c : Cfg) : Nat := c.tSelMs

/-- `NPARAM_MAX`, 0 to 253 (R7, R108). -/
def nparamMax (c : Cfg) : Nat := c.nparamMax.val

/-- `OPC[C][k]`; D0 fixes PLAY_FOLDER_TRACK at 0x0F (R8, R84). -/
def opcC (c : Cfg) : Key → Byte
  | .selectDevice => c.opcC.selectDevice
  | .setVolume => c.opcC.setVolume
  | .playIndex => c.opcC.playIndex
  | .playMp3Folder => c.opcC.playMp3Folder
  | .playFolderTrack => 0x0F#8
  | .stop => c.opcC.stop
  | .pause => c.opcC.pause
  | .resume => c.opcC.resume
  | .next => c.opcC.next
  | .prev => c.opcC.prev
  | .setEq => c.opcC.setEq
  | .setPlayMode => c.opcC.setPlayMode
  | .loopFolder => c.opcC.loopFolder
  | .shuffleFolder => c.opcC.shuffleFolder

/-- `OPC[S][k]`; D0 fixes PLAY_INDEX at 0xA0 (R8, R84). -/
def opcS (c : Cfg) : Key → Byte
  | .selectDevice => c.opcS.selectDevice
  | .setVolume => c.opcS.setVolume
  | .playIndex => 0xA0#8
  | .playMp3Folder => c.opcS.playMp3Folder
  | .playFolderTrack => c.opcS.playFolderTrack
  | .stop => c.opcS.stop
  | .pause => c.opcS.pause
  | .resume => c.opcS.resume
  | .next => c.opcS.next
  | .prev => c.opcS.prev
  | .setEq => c.opcS.setEq
  | .setPlayMode => c.opcS.setPlayMode
  | .loopFolder => c.opcS.loopFolder
  | .shuffleFolder => c.opcS.shuffleFolder

/-- `OPC[v][k]` (R84). -/
def opc (c : Cfg) : Variant → Key → Byte
  | .C => opcC c
  | .S => opcS c

/-- `SEL_PARAM[v]` (R7). -/
def selParam (c : Cfg) : Variant → Byte
  | .C => c.selParamC
  | .S => c.selParamS

/-- The 14 keys, in the order of R84's table. -/
def allKeys : List Key :=
  [.selectDevice, .setVolume, .playIndex, .playMp3Folder, .playFolderTrack, .stop, .pause, .resume,
   .next, .prev, .setEq, .setPlayMode, .loopFolder, .shuffleFolder]

/-- The list of parameter bytes, as format S carries it (R81). -/
def paramList : Params → List Byte
  | .none => []
  | .one p => [p]
  | .two a b => [a, b]

/-- DH of a format C frame (R81). -/
def dataHigh : Params → Byte
  | .none => 0x00#8
  | .one _ => 0x00#8
  | .two a _ => a

/-- DL of a format C frame (R81). -/
def dataLow : Params → Byte
  | .none => 0x00#8
  | .one p => p
  | .two _ b => b

/-- The parameter of a volume command: the level clamped to 0 .. `VOL_MAX`, one byte (R80, R121). -/
def levelParams (c : Cfg) (level : Arg) : Params :=
  .one (byte (clamp level.toInt 0 (volMax c)))

/-- The parameters of an index command: the index clamped to 1 .. `IDX_MAX`, high byte first (R80, R122). -/
def indexParams (c : Cfg) (index : Arg) : Params :=
  let i := clamp index.toInt 1 (idxMax c)
  .two (hi8 i) (lo8 i)

/-- The parameters of a folder-and-track command: folder clamped to 1 .. 99, track to 1 .. 255,
independently (R80, R123). -/
def folderTrackParams (folder track : Arg) : Params :=
  .two (byte (clamp folder.toInt 1 99)) (byte (clamp track.toInt 1 255))

/-- `EQ_CODE[m]`, m being the mode argument clamped to 0 .. 5 (R80, R85, R125). -/
def eqCode (c : Cfg) (mode : Arg) : Byte :=
  match (clamp mode.toInt 0 5).toNat with
  | 0 => c.eqCode.eq0
  | 1 => c.eqCode.eq1
  | 2 => c.eqCode.eq2
  | 3 => c.eqCode.eq3
  | 4 => c.eqCode.eq4
  | _ => c.eqCode.eq5

/-- `PM_TABLE[v]` (R86). -/
def pmTable (c : Cfg) : Variant → PmTable
  | .C => c.pmC
  | .S => c.pmS

/-- `PM_TABLE[v][m]`, m being the mode argument clamped to 0 .. 3: loop-off, repeat-current, loop-all,
shuffle (R80, R85, R86, R126). -/
def pmEntry (c : Cfg) (v : Variant) (mode : Arg) : PmEntry :=
  match (clamp mode.toInt 0 3).toNat with
  | 0 => (pmTable c v).loopOff
  | 1 => (pmTable c v).repeatCurrent
  | 2 => (pmTable c v).loopAll
  | _ => (pmTable c v).shuffle

end Sys2Proof.Machine
end

