-- ==== Sys2Proof/Syntax.lean ====
section
/-! DEFINITION. The instruction set: one constructor of `Instr` for each row of
spec/opcode_table.json (spec/30_encoding.md R82, R84), and what a port presents to the block. -/

namespace Sys2Proof

/-- The rows of spec/opcode_table.json. The twelve operations and the reserved selectors arrive on
the command port (R76, R77); the two codec functions on the codec port (R107); the 28 wire commands
are the frames the sequencer puts on the TX port (R84). -/
inductive Instr where
  /-- `init(tx, rx, baud)`, R150 -/
  | init (tx rx : Pin) (baud : Baud)
  /-- `selectDevice()`, R151 -/
  | selectDevice
  /-- `setVolume(level)`, R121 -/
  | setVolume (level : Arg)
  /-- `playByIndex(index)`, R122 -/
  | playByIndex (index : Arg)
  /-- `playInFolder(folder, track)`, R123 -/
  | playInFolder (folder track : Arg)
  /-- `playFromNamedFolder(index)`, R124 -/
  | playFromNamedFolder (index : Arg)
  /-- `setEqualizer(mode)`, R125 -/
  | setEqualizer (mode : Arg)
  /-- `setPlayMode(mode)`, R126 -/
  | setPlayMode (mode : Arg)
  /-- `pauseResume()`, R127 -/
  | pauseResume
  /-- `stop()`, R128 -/
  | stop
  /-- `next()`, R129 -/
  | next
  /-- `prev()`, R130 -/
  | prev
  /-- a request whose selector names no operation, R152 -/
  | reserved (op : Byte)
  /-- `buildChecksummedFrame(cmd, dataHigh, dataLow)`, R103 -/
  | buildC (cmd dh dl : Byte)
  /-- `buildSimpleFrame(cmd, params)`, R104 -/
  | buildS (cmd : Byte) (params : List Byte)
  /-- C.SELECT_DEVICE; its parameter is `SEL_PARAM[C]` -/
  | cSelectDevice
  /-- C.SET_VOLUME -/
  | cSetVolume (level : Byte)
  /-- C.PLAY_INDEX -/
  | cPlayIndex (hi lo : Byte)
  /-- C.PLAY_MP3_FOLDER -/
  | cPlayMp3Folder (hi lo : Byte)
  /-- C.PLAY_FOLDER_TRACK -/
  | cPlayFolderTrack (folder track : Byte)
  /-- C.STOP -/
  | cStop
  /-- C.PAUSE -/
  | cPause
  /-- C.RESUME -/
  | cResume
  /-- C.NEXT -/
  | cNext
  /-- C.PREV -/
  | cPrev
  /-- C.SET_EQ -/
  | cSetEq (code : Byte)
  /-- C.SET_PLAY_MODE; a format C frame has both data bytes whatever the number of parameters (R81) -/
  | cSetPlayMode (dh dl : Byte)
  /-- C.LOOP_FOLDER -/
  | cLoopFolder (dh dl : Byte)
  /-- C.SHUFFLE_FOLDER -/
  | cShuffleFolder (dh dl : Byte)
  /-- S.SELECT_DEVICE; its parameter is `SEL_PARAM[S]` -/
  | sSelectDevice
  /-- S.SET_VOLUME -/
  | sSetVolume (level : Byte)
  /-- S.PLAY_INDEX -/
  | sPlayIndex (hi lo : Byte)
  /-- S.PLAY_MP3_FOLDER -/
  | sPlayMp3Folder (hi lo : Byte)
  /-- S.PLAY_FOLDER_TRACK -/
  | sPlayFolderTrack (folder track : Byte)
  /-- S.STOP -/
  | sStop
  /-- S.PAUSE -/
  | sPause
  /-- S.RESUME -/
  | sResume
  /-- S.NEXT -/
  | sNext
  /-- S.PREV -/
  | sPrev
  /-- S.SET_EQ -/
  | sSetEq (code : Byte)
  /-- S.SET_PLAY_MODE, with the 0 to 2 parameters `PM_TABLE` gives -/
  | sSetPlayMode (params : Params)
  /-- S.LOOP_FOLDER -/
  | sLoopFolder (params : Params)
  /-- S.SHUFFLE_FOLDER -/
  | sShuffleFolder (params : Params)
  deriving DecidableEq, Repr

/-- A frame, read: the two wire formats, never merged into one structure (R3, R70). -/
inductive Frame where
  /-- format C: CMD, DH, DL (R71) -/
  | C (cmd dh dl : Byte)
  /-- format S: CMD and the parameter bytes (R72) -/
  | S (cmd : Byte) (params : List Byte)
  deriving DecidableEq, Repr

/-- Where an instruction stands. -/
inductive Port where
  /-- the command port, R188 "request" -/
  | command
  /-- the codec port, R188 "codec call" -/
  | codec
  /-- the sequencer's own side of the TX port: the host cannot call EMIT (R105) -/
  | wire
  deriving DecidableEq, Repr

/-- One thing presented to the block. `command` and `codecC`, `codecS` are what the host can send
(R188). `wire` is not the host's: it is the frame of one wire command of the table, as the sequencer
hands it over; the model lets it be presented alone so that each of the 28 rows can be stepped.
DESIGN CHOICE (log 3), safe. -/
inductive PortWord where
  /-- a request word Q on the command port (R76) -/
  | command (q : Request)
  /-- a call of BUILD_C: three 8-bit operands (R103, R108) -/
  | codecC (cmd dh dl : Byte)
  /-- a call of BUILD_S: an 8-bit operand and a list of them (R104, R108) -/
  | codecS (cmd : Byte) (params : List Byte)
  /-- the bytes of a frame on the sequencer's side of the TX port -/
  | wire (frame : List Byte)
  deriving DecidableEq, Repr

/-- Why the decoder rejects what a port presents. Only `PortWord.wire` can be rejected: every request
word decodes (R87) and a codec call carries its operands (R107). -/
inductive DecodeError where
  /-- the bytes have neither frame format (R71, R72) -/
  | notAFrame
  /-- format C but for bytes 7 and 8, which are not the checksum (R101) -/
  | wrongChecksum
  /-- a frame that no key of `OPC[v]` gives (R84) -/
  | noSuchCommand
  deriving DecidableEq, Repr

/-- The port an instruction stands on. -/
def Instr.port : Instr → Port
  | .init _ _ _ | .selectDevice | .setVolume _ | .playByIndex _ | .playInFolder _ _ => .command
  | .playFromNamedFolder _ | .setEqualizer _ | .setPlayMode _ | .pauseResume => .command
  | .stop | .next | .prev | .reserved _ => .command
  | .buildC _ _ _ | .buildS _ _ => .codec
  | .cSelectDevice | .cSetVolume _ | .cPlayIndex _ _ | .cPlayMp3Folder _ _ => .wire
  | .cPlayFolderTrack _ _ | .cStop | .cPause | .cResume | .cNext | .cPrev => .wire
  | .cSetEq _ | .cSetPlayMode _ _ | .cLoopFolder _ _ | .cShuffleFolder _ _ => .wire
  | .sSelectDevice | .sSetVolume _ | .sPlayIndex _ _ | .sPlayMp3Folder _ _ => .wire
  | .sPlayFolderTrack _ _ | .sStop | .sPause | .sResume | .sNext | .sPrev => .wire
  | .sSetEq _ | .sSetPlayMode _ | .sLoopFolder _ | .sShuffleFolder _ => .wire

/-- The port a word stands on. -/
def PortWord.port : PortWord → Port
  | .command _ => .command
  | .codecC _ _ _ | .codecS _ _ => .codec
  | .wire _ => .wire

end Sys2Proof
end

