-- ==== Sys2Proof/Machine/Frames.lean ====
section
/-! DEFINITION. The frame codec as pure functions (spec/40_codec.md): the checksum accumulator, BUILD_C,
BUILD_S, the choice of encoder that EMIT makes, and the reading of a frame back into its fields. -/

namespace Sys2Proof.Machine

/-- One turn of the accumulator's loop, `SUM <- (SUM + f) mod 0x10000` (R102). -/
def accumulate (sum : U16) (f : Byte) : U16 := sum + f.setWidth 16

/-- The accumulator SUM after a list of fields: cleared, then each field added (R27, R102). -/
def sumFields (fields : List Byte) : U16 := fields.foldl accumulate 0x0000#16

/-- `SUM16(cmd, dh, dl)`: VER, LEN, CMD, FDBK, DH, DL (R100). -/
def sum16 (cmd dh dl : Byte) : U16 := sumFields [0xFF#8, 0x06#8, cmd, 0x00#8, dh, dl]

/-- `CK16(cmd, dh, dl) = (0xFFFF - SUM16) mod 0x10000` (R101). -/
def ck16 (cmd dh dl : Byte) : U16 := 0xFFFF#16 - sum16 cmd dh dl

/-- CKH = `(CK16 >> 8) & 0xFF` (R101). -/
def ckHigh (cmd dh dl : Byte) : Byte := (ck16 cmd dh dl >>> 8).setWidth 8

/-- CKL = `CK16 & 0xFF` (R101). -/
def ckLow (cmd dh dl : Byte) : Byte := (ck16 cmd dh dl).setWidth 8

/-- BUILD_C, `buildChecksummedFrame` (R71, R103). -/
def buildC (cmd dh dl : Byte) : List Byte :=
  [0x7E#8, 0xFF#8, 0x06#8, cmd, 0x00#8, dh, dl,
   ckHigh cmd dh dl, ckLow cmd dh dl, 0xEF#8]

/-- BUILD_S, `buildSimpleFrame`, for every number of parameters (R72, R104). -/
def buildS (cmd : Byte) (ps : List Byte) : List Byte :=
  [0x7E#8, byte (2 + ps.length), cmd] ++ ps ++ [0x7E#8]

/-- The frame EMIT builds: the encoder is chosen by the variant, outside both encoders (R81, R105). -/
def frameOf (v : Variant) (cmd : Byte) (ps : Params) : List Byte :=
  match v with
  | .C => buildC cmd (dataHigh ps) (dataLow ps)
  | .S => buildS cmd (paramList ps)

/-- Reads format C: the fixed bytes, then the checksum (R71). -/
def parseC : List Byte → Except DecodeError Frame
  | [b0, b1, b2, cmd, b4, dh, dl, ckh, ckl, b9] =>
    if b0 = 0x7E#8 ∧ b1 = 0xFF#8 ∧ b2 = 0x06#8 ∧ b4 = 0x00#8 ∧ b9 = 0xEF#8 then
      if ckh = ckHigh cmd dh dl ∧ ckl = ckLow cmd dh dl then
        .ok (.C cmd dh dl)
      else .error .wrongChecksum
    else .error .notAFrame
  | _ => .error .notAFrame

/-- Reads format S: the markers, and LEN = 2 + N (R72, R74). -/
def parseS : List Byte → Except DecodeError Frame
  | b0 :: len :: cmd :: rest =>
    if b0 = 0x7E#8 ∧ rest.getLast? = some 0x7E#8 ∧ len.toNat = rest.length + 1 then
      .ok (.S cmd rest.dropLast)
    else .error .notAFrame
  | _ => .error .notAFrame

/-- Reads a frame. Byte 1 tells the formats apart (R74): 0xFF is VER of format C, and LEN of format S
only for the 257-byte frame, which has another length. -/
def parseFrame (f : List Byte) : Except DecodeError Frame :=
  match parseS f with
  | .ok fr => .ok fr
  | .error _ => parseC f

end Sys2Proof.Machine
end

