-- ==== Sys2Proof/WellFormed.lean ====
section
/-! DEFINITION. The checks on an instruction that its type does not carry. Every other operand is a
bit vector of the width the spec gives it, and any value of it is legal (R24, R79, R88). -/

namespace Sys2Proof

/-- A reserved selector is 0x00 or 0x0D to 0xFF (R77, R87). -/
def reservedSelector (op : Byte) : Bool :=
  op == 0x00#8 || (0x0D#8).ule op

/-- A BUILD_S list has at most 253 bytes, the ceiling of `NPARAM_MAX` (R108). -/
def paramsInRange (ps : List Byte) : Bool :=
  decide (ps.length ≤ 253)

/-- Well-formed instructions: those some port of some SMP3-FE can present. -/
def wellFormed : Instr → Bool
  | .reserved op => reservedSelector op
  | .buildS _ ps => paramsInRange ps
  | .init _ _ _ | .selectDevice | .setVolume _ | .playByIndex _ | .playInFolder _ _ => true
  | .playFromNamedFolder _ | .setEqualizer _ | .setPlayMode _ | .pauseResume => true
  | .stop | .next | .prev | .buildC _ _ _ => true
  | .cSelectDevice | .cSetVolume _ | .cPlayIndex _ _ | .cPlayMp3Folder _ _ => true
  | .cPlayFolderTrack _ _ | .cStop | .cPause | .cResume | .cNext | .cPrev => true
  | .cSetEq _ | .cSetPlayMode _ _ | .cLoopFolder _ _ | .cShuffleFolder _ _ => true
  | .sSelectDevice | .sSetVolume _ | .sPlayIndex _ _ | .sPlayMp3Folder _ _ => true
  | .sPlayFolderTrack _ _ | .sStop | .sPause | .sResume | .sNext | .sPrev => true
  | .sSetEq _ | .sSetPlayMode _ | .sLoopFolder _ | .sShuffleFolder _ => true

end Sys2Proof
end

