-- ==== Sys2Proof/Decode.lean ====
section
/-! DEFINITION. The decoder, total on whatever a port presents, and the encoder (spec/30_encoding.md
R76 to R79, R81, R84, R87; spec/40_codec.md R107). The decoder of wire commands takes `CFG`, because
26 of the 28 opcode bytes are OPEN parameters of it (R84). -/

namespace Sys2Proof

open Machine

/-! ### The command port -/

/-- OP = Q[71:64] (R76). -/
def opField (q : Request) : Byte := q.extractLsb' 64 8

/-- A = Q[63:32] (R76). -/
def aField (q : Request) : BitVec 32 := q.extractLsb' 32 32

/-- B = Q[31:0] (R76). -/
def bField (q : Request) : BitVec 32 := q.extractLsb' 0 32

/-- A request word from its three fields (R76). -/
def requestWord (op : Byte) (a b : BitVec 32) : Request := op ++ a ++ b

/-- The operation a request word asks for, by its selector (R77); total, since every selector the table
does not name is reserved (R87). -/
def decodeRequest (q : Request) : Instr :=
  match (opField q).toNat with
  | 0x01 => .init ((bField q).extractLsb' 0 16) ((bField q).extractLsb' 16 16) (aField q)
  | 0x02 => .selectDevice
  | 0x03 => .setVolume (aField q)
  | 0x04 => .playByIndex (aField q)
  | 0x05 => .playInFolder (aField q) (bField q)
  | 0x06 => .playFromNamedFolder (aField q)
  | 0x07 => .setEqualizer (aField q)
  | 0x08 => .setPlayMode (aField q)
  | 0x09 => .pauseResume
  | 0x0A => .stop
  | 0x0B => .next
  | 0x0C => .prev
  | _ => .reserved (opField q)

/-! ### Wire commands -/

/-- The format C wire command of key `k` with data bytes `dh`, `dl`, if the row of `k` has such a
frame: a row with one parameter has DH = 0x00, a row with none DH = DL = 0x00 (R81, R84). -/
def wireC (c : Cfg) (k : Key) (dh dl : Byte) : Option Instr :=
  match k with
  | .selectDevice => if dh = 0x00#8 ∧ dl = selParam c .C then some .cSelectDevice else none
  | .setVolume => if dh = 0x00#8 then some (.cSetVolume dl) else none
  | .playIndex => some (.cPlayIndex dh dl)
  | .playMp3Folder => some (.cPlayMp3Folder dh dl)
  | .playFolderTrack => some (.cPlayFolderTrack dh dl)
  | .stop => if dh = 0x00#8 ∧ dl = 0x00#8 then some .cStop else none
  | .pause => if dh = 0x00#8 ∧ dl = 0x00#8 then some .cPause else none
  | .resume => if dh = 0x00#8 ∧ dl = 0x00#8 then some .cResume else none
  | .next => if dh = 0x00#8 ∧ dl = 0x00#8 then some .cNext else none
  | .prev => if dh = 0x00#8 ∧ dl = 0x00#8 then some .cPrev else none
  | .setEq => if dh = 0x00#8 then some (.cSetEq dl) else none
  | .setPlayMode => some (.cSetPlayMode dh dl)
  | .loopFolder => some (.cLoopFolder dh dl)
  | .shuffleFolder => some (.cShuffleFolder dh dl)

/-- A list of 0 to 2 parameter bytes as `Params` (R81). -/
def paramsOfList : List Byte → Option Params
  | [] => some .none
  | [p] => some (.one p)
  | [a, b] => some (.two a b)
  | _ => none

/-- The format S wire command of key `k` with parameters `ps`, if the row of `k` has that many (R84). -/
def wireS (c : Cfg) (k : Key) (ps : Params) : Option Instr :=
  match k with
  | .selectDevice => if ps = .one (selParam c .S) then some .sSelectDevice else none
  | .setVolume => match ps with | .one p => some (.sSetVolume p) | .none => none | .two _ _ => none
  | .playIndex => match ps with | .two a b => some (.sPlayIndex a b) | .none => none | .one _ => none
  | .playMp3Folder => match ps with | .two a b => some (.sPlayMp3Folder a b) | .none => none | .one _ => none
  | .playFolderTrack => match ps with | .two a b => some (.sPlayFolderTrack a b) | .none => none | .one _ => none
  | .stop => if ps = .none then some .sStop else none
  | .pause => if ps = .none then some .sPause else none
  | .resume => if ps = .none then some .sResume else none
  | .next => if ps = .none then some .sNext else none
  | .prev => if ps = .none then some .sPrev else none
  | .setEq => match ps with | .one p => some (.sSetEq p) | .none => none | .two _ _ => none
  | .setPlayMode => some (.sSetPlayMode ps)
  | .loopFolder => some (.sLoopFolder ps)
  | .shuffleFolder => some (.sShuffleFolder ps)

/-- The wire command a frame is, under the opcode map of `c`: the first key of R84's table whose
opcode byte and parameters the frame has. Two keys with one opcode byte (the map need not be
injective, R84) give one frame two names; either name stands for the same bytes.
DESIGN CHOICE (log 4), safe. -/
def wireOfFrame (c : Cfg) : Frame → Option Instr
  | .C cmd dh dl => allKeys.findSome? fun k => if opc c .C k = cmd then wireC c k dh dl else none
  | .S cmd bytes =>
    match paramsOfList bytes with
    | some ps => allKeys.findSome? fun k => if opc c .S k = cmd then wireS c k ps else none
    | none => none

/-- The wire command that bytes on the sequencer's side of the TX port are. -/
def decodeWire (c : Cfg) (f : List Byte) : Except DecodeError Instr :=
  match parseFrame f with
  | .error e => .error e
  | .ok fr =>
    match wireOfFrame c fr with
    | some i => .ok i
    | none => .error .noSuchCommand

/-! ### The decoder -/

/-- The instruction a port presents. -/
def decode (c : Cfg) : PortWord → Except DecodeError Instr
  | .command q => .ok (decodeRequest q)
  | .codecC cmd dh dl => .ok (.buildC cmd dh dl)
  | .codecS cmd ps => .ok (.buildS cmd ps)
  | .wire f => decodeWire c f

/-! ### The encoder -/

/-- The frame of the wire command of key `k`, on its port. -/
def wireWord (c : Cfg) (v : Variant) (k : Key) (ps : Params) : PortWord :=
  .wire (frameOf v (opc c v k) ps)

/-- The word of an instruction, ignored fields zero (R76, R77, R79, R84). -/
def encode (c : Cfg) : Instr → PortWord
  | .init tx rx baud => .command (requestWord 0x01#8 baud (rx ++ tx))
  | .selectDevice => .command (requestWord 0x02#8 0 0)
  | .setVolume level => .command (requestWord 0x03#8 level 0)
  | .playByIndex index => .command (requestWord 0x04#8 index 0)
  | .playInFolder folder track => .command (requestWord 0x05#8 folder track)
  | .playFromNamedFolder index => .command (requestWord 0x06#8 index 0)
  | .setEqualizer mode => .command (requestWord 0x07#8 mode 0)
  | .setPlayMode mode => .command (requestWord 0x08#8 mode 0)
  | .pauseResume => .command (requestWord 0x09#8 0 0)
  | .stop => .command (requestWord 0x0A#8 0 0)
  | .next => .command (requestWord 0x0B#8 0 0)
  | .prev => .command (requestWord 0x0C#8 0 0)
  | .reserved op => .command (requestWord op 0 0)
  | .buildC cmd dh dl => .codecC cmd dh dl
  | .buildS cmd ps => .codecS cmd ps
  | .cSelectDevice => wireWord c .C .selectDevice (.one (selParam c .C))
  | .cSetVolume level => wireWord c .C .setVolume (.one level)
  | .cPlayIndex hi lo => wireWord c .C .playIndex (.two hi lo)
  | .cPlayMp3Folder hi lo => wireWord c .C .playMp3Folder (.two hi lo)
  | .cPlayFolderTrack folder track => wireWord c .C .playFolderTrack (.two folder track)
  | .cStop => wireWord c .C .stop .none
  | .cPause => wireWord c .C .pause .none
  | .cResume => wireWord c .C .resume .none
  | .cNext => wireWord c .C .next .none
  | .cPrev => wireWord c .C .prev .none
  | .cSetEq code => wireWord c .C .setEq (.one code)
  | .cSetPlayMode dh dl => wireWord c .C .setPlayMode (.two dh dl)
  | .cLoopFolder dh dl => wireWord c .C .loopFolder (.two dh dl)
  | .cShuffleFolder dh dl => wireWord c .C .shuffleFolder (.two dh dl)
  | .sSelectDevice => wireWord c .S .selectDevice (.one (selParam c .S))
  | .sSetVolume level => wireWord c .S .setVolume (.one level)
  | .sPlayIndex hi lo => wireWord c .S .playIndex (.two hi lo)
  | .sPlayMp3Folder hi lo => wireWord c .S .playMp3Folder (.two hi lo)
  | .sPlayFolderTrack folder track => wireWord c .S .playFolderTrack (.two folder track)
  | .sStop => wireWord c .S .stop .none
  | .sPause => wireWord c .S .pause .none
  | .sResume => wireWord c .S .resume .none
  | .sNext => wireWord c .S .next .none
  | .sPrev => wireWord c .S .prev .none
  | .sSetEq code => wireWord c .S .setEq (.one code)
  | .sSetPlayMode ps => wireWord c .S .setPlayMode ps
  | .sLoopFolder ps => wireWord c .S .loopFolder ps
  | .sShuffleFolder ps => wireWord c .S .shuffleFolder ps

/-! ### Words as spec/opcode_table.json writes them -/

/-- The `n` bytes of a table word, byte 0 of the frame leftmost, that is in the most significant
bits: the table's patterns are read as one number (spec/98_reader.md, R71 "byte 0 leftmost and each
byte written most significant bit first"). DEDUCED (log 6). -/
def bytesOfWord : Nat → Nat → List Byte
  | 0, _ => []
  | n + 1, w => BitVec.ofNat 8 (w / 256 ^ n) :: bytesOfWord n w

/-- What the port presents for a table word of `nbits` bits. 72 bits is a request word of the command
port. Any other length is a frame, and a frame is a call of the codec function that builds it: the
rows BUILD_C and BUILD_S hold every frame, and which of the 28 wire commands it also is cannot be
read from its bits (R84: the opcode bytes are OPEN). Bytes that are no frame are put where the decoder
rejects them by name. DEDUCED (log 6). -/
def tableWord (nbits w : Nat) : PortWord :=
  if nbits = 72 then .command (BitVec.ofNat 72 w)
  else
    let f := bytesOfWord ((nbits + 7) / 8) w
    match parseFrame f with
    | .ok (.C cmd dh dl) => .codecC cmd dh dl
    | .ok (.S cmd ps) => .codecS cmd ps
    | .error _ => .wire f

/-- The instruction the decoder reads from a table word. -/
def decodeTableWord (nbits w : Nat) : Option Instr :=
  match decode Config.strap (tableWord nbits w) with
  | .ok i => some i
  | .error _ => none

end Sys2Proof
end

