-- ==== Sys2Proof/Machine/State.lean ====
section
/-! DEFINITION. The state of SMP3-FE (spec/10_state.md), the reasons a step can stop, and the state
after reset (R34, R181). -/

namespace Sys2Proof.Machine

/-- TCFG, the transport configuration register, three fields (R24). -/
structure TransportConfig where
  /-- TCFG[15:0] -/
  txpin : Pin
  /-- TCFG[31:16] -/
  rxpin : Pin
  /-- TCFG[63:32] -/
  baud : Baud
  deriving DecidableEq, Repr

/-- An element of `EVLOG` (R13, R31). -/
inductive Event where
  /-- `CFG(tx, rx, baud)`, appended by `TxConfig` -/
  | config (tx rx : Pin) (baud : Baud)
  /-- `TX(F)`, appended by `TxWrite` -/
  | tx (frame : List Byte)
  /-- `DELAY(ms)`, appended by `Delay` -/
  | delay (ms : Nat)
  deriving DecidableEq, Repr

/-- SMP3-FE and what stands at its ports. One value is one instance of the block, with a
configuration, a state and an event log of its own (R26). -/
structure State where
  /-- `CFG`, the straps. No operation writes it (R30). -/
  cfg : Cfg
  /-- INIT: false is Uninitialized, true is Ready (R22). -/
  init : Bool
  /-- PAUSED (R23). -/
  paused : Bool
  /-- TCFG (R24). -/
  tcfg : TransportConfig
  /-- `EVLOG`, oldest first (R31). -/
  evlog : List Event
  /-- The frames the codec port has answered with, oldest first: what the host got back (R107, R188).
  A record of a port, as `EVLOG` is. DESIGN CHOICE (log 2). -/
  replies : List (List Byte)
  /-- What the ports present next, in order: the host's finite list of requests from its present
  position on (R21, R187). The host's state, not the block's. -/
  pending : List PortWord
  deriving DecidableEq, Repr

/-- The hardware faults on nothing: "This hardware raises nothing" (R160, R167). The type is empty, so no
step can answer a fault. Nobody raises one. Safe. -/
inductive Fault where
  deriving DecidableEq, Repr

/-- Why the model gives no next state. -/
inductive Refusal where
  /-- Raised by `exec` for an instruction that has no meaning yet; no arm raises it now. Safe. -/
  | notModelled (mnemonic : String)
  /-- Raised by `execBuildS` for a list longer than `NPARAM_MAX`: "a request with a longer list cannot be
  formed on the port" (R108; spec/93_implementation_defined.md U18 "refuse"). Safe. -/
  | listCannotBeFormed
  /-- Raised by `step` for bytes on the sequencer's side of the TX port that are no wire command of
  the table. The host cannot put bytes there and the sequencer does not (R105). Safe. -/
  | undecodable (e : DecodeError)
  deriving DecidableEq, Repr

/-- The state after reset of the SMP3-FE whose straps are `c`: the table of R34. The three TCFG fields
are `TXPIN_RST`, `RXPIN_RST` and `BAUD_RST` of the straps (R7, R24). -/
def State.resetWith (c : Cfg) : State where
  cfg := c
  init := false
  paused := false
  tcfg := ⟨c.txpinRst, c.rxpinRst, c.baudRst⟩
  evlog := []
  replies := []
  pending := []

/-- The state after reset (R34, R181), nothing yet presented on any port. -/
def State.reset : State := State.resetWith Config.strap

end Sys2Proof.Machine
end

