-- ==== Sys2Proof/Machine/Flags.lean ====
section
/-! DEFINITION. The two flags of the block: INIT as the guard of every operation but init
(spec/41_facade_playback.md R120), and the writes of INIT and PAUSED (R22, R23, R127, R150). The block has
no arithmetic flags (spec/40_codec.md R110). -/

namespace Sys2Proof.Machine

/-- `if INIT = 0: return`, then the rest of the operation (R120). -/
def guarded (s : State) (op : State → State) : State :=
  if s.init then op s else s

/-- `INIT <- 1` (R22, R150). -/
def setInit (s : State) : State := { s with init := true }

/-- `PAUSED <- b` (R23, R127). -/
def setPaused (b : Bool) (s : State) : State := { s with paused := b }

/-- TCFG as the 64-bit register R24 lays out: TXPIN in 15:0, RXPIN in 31:16, BAUD in 63:32. No
operation reads it; the register is stored once, as its three fields. -/
def tcfgWord (t : TransportConfig) : BitVec 64 := t.baud ++ t.rxpin ++ t.txpin

/-- `TCFG.TXPIN <- tx ; TCFG.RXPIN <- rx ; TCFG.BAUD <- baud` (R24, R150). -/
def setTcfg (tx rx : Pin) (baud : Baud) (s : State) : State := { s with tcfg := ⟨tx, rx, baud⟩ }

end Sys2Proof.Machine
end

