-- ==== Sys2Proof/Machine/Ops.lean ====
section
/-! DEFINITION. The shared operations: the three interface primitives (spec/00_scope.md R13), EMIT
(spec/40_codec.md R105), the sequencer's emission of one wire command, and the answer of the codec port
(R107).

Taking an exception and returning from one: there is neither. "There are no synchronous exceptions"
(spec/60_exceptions.md R160), no interrupts (R165), "no trap mechanism" (R167) and "no trap-return
operation" (R168). The three conditions the spec names (R161 to R163) are the guard (`guarded`), the
clamp (`clamp`) and nothing at all.

Memory: there is none and no address space (spec/10_state.md R33, spec/20_memory.md R50, R51). `txWrite`
stands where a store would. -/

namespace Sys2Proof.Machine

/-- Appends one element to `EVLOG` (R31). -/
def logEvent (e : Event) (s : State) : State := { s with evlog := s.evlog ++ [e] }

/-- `TxConfig(tx, rx, baud)` (R13). -/
def txConfig (tx rx : Pin) (baud : Baud) (s : State) : State := logEvent (.config tx rx baud) s

/-- `TxWrite(F)`: the whole frame as one buffer (R13, R50, R55). It always returns (R58). -/
def txWrite (f : List Byte) (s : State) : State := logEvent (.tx f) s

/-- `Delay(ms)` (R13, R170). It always returns (R58). -/
def delay (ms : Nat) (s : State) : State := logEvent (.delay ms) s

/-- `EMIT(cmd, ps)`: one frame in the variant of the straps, written (R105). -/
def emit (cmd : Byte) (ps : Params) (s : State) : State :=
  txWrite (frameOf s.cfg.variant cmd ps) s

/-- `EMIT(OPC[v][k], ps)` with v = `CFG.VARIANT` (R84, R105). -/
def emitKey (k : Key) (ps : Params) (s : State) : State :=
  emit (opc s.cfg s.cfg.variant k) ps s

/-- The sequencer's emission of the wire command of variant `v` and key `k` (R84, R105, R120): in Ready, and
in an SMP3-FE strapped to `v`, the frame is written. The sequencer emits nothing in Uninitialized
(R120) and nothing in the other format (R74), so there nothing happens. DESIGN CHOICE (log 3), safe. -/
def wireCommand (v : Variant) (k : Key) (ps : Params) (s : State) : State :=
  if s.init && s.cfg.variant == v then txWrite (frameOf v (opc s.cfg v k) ps) s else s

/-- The codec port answers with a frame; no event, no other change (R107). -/
def reply (f : List Byte) (s : State) : State := { s with replies := s.replies ++ [f] }

end Sys2Proof.Machine
end

