-- ==== Sys2Proof/Machine/Codec.lean ====
section
/-! DEFINITION. The two codec functions on the codec port (spec/40_codec.md R103, R104, R107, R108). -/

namespace Sys2Proof.Machine

/-- BUILD_C(cmd, dh, dl), R103: the frame is the port's answer, in Uninitialized and in Ready alike. -/
def execBuildC (cmd dh dl : Byte) (s : State) : Host.Outcome State Fault Refusal :=
  .next (reply (buildC cmd dh dl) s)

/-- A list has at most `n` bytes (R108). Written by recursion on the list, so that the empty list fits
whatever `n` is without `n` being looked at. -/
def listFits : List Byte → Nat → Bool
  | [], _ => true
  | _ :: _, 0 => false
  | _ :: ps, n + 1 => listFits ps n

/-- BUILD_S(cmd, params), R104, on a port that takes lists of at most `NPARAM_MAX` bytes (R108). -/
def execBuildS (cmd : Byte) (ps : List Byte) (s : State) : Host.Outcome State Fault Refusal :=
  if listFits ps (nparamMax s.cfg) then .next (reply (buildS cmd ps) s)
  else .refused .listCannotBeFormed

end Sys2Proof.Machine
end

