-- ==== Sys2Proof/Machine/Playback.lean ====
section
/-! DEFINITION. The ten playback operations (spec/41_facade_playback.md). Each is the guard of R120, its
clamp, and one EMIT. -/

namespace Sys2Proof.Machine

/-- setVolume(level), R121. -/
def execSetVolume (level : Arg) (s : State) : Host.Outcome State Fault Refusal :=
  .next (guarded s fun s => emitKey .setVolume (levelParams s.cfg level) s)

/-- playByIndex(index), R122. -/
def execPlayByIndex (index : Arg) (s : State) : Host.Outcome State Fault Refusal :=
  .next (guarded s fun s => emitKey .playIndex (indexParams s.cfg index) s)

/-- playInFolder(folder, track), R123. -/
def execPlayInFolder (folder track : Arg) (s : State) : Host.Outcome State Fault Refusal :=
  .next (guarded s fun s => emitKey .playFolderTrack (folderTrackParams folder track) s)

/-- playFromNamedFolder(index), R124: the same `IDX_MAX` as playByIndex. -/
def execPlayFromNamedFolder (index : Arg) (s : State) : Host.Outcome State Fault Refusal :=
  .next (guarded s fun s => emitKey .playMp3Folder (indexParams s.cfg index) s)

/-- setEqualizer(mode), R125. -/
def execSetEqualizer (mode : Arg) (s : State) : Host.Outcome State Fault Refusal :=
  .next (guarded s fun s => emitKey .setEq (.one (eqCode s.cfg mode)) s)

/-- setPlayMode(mode), R126: the opcode and the parameters are those of `PM_TABLE`. -/
def execSetPlayMode (mode : Arg) (s : State) : Host.Outcome State Fault Refusal :=
  .next (guarded s fun s =>
    emit (pmEntry s.cfg s.cfg.variant mode).cmd (pmEntry s.cfg s.cfg.variant mode).params s)

/-- pauseResume(), R127: PAUSE and then PAUSED = 1 when PAUSED was 0, RESUME and then PAUSED = 0 when it
was 1. -/
def execPauseResume (s : State) : Host.Outcome State Fault Refusal :=
  .next (guarded s fun s =>
    if s.paused then setPaused false (emitKey .resume .none s)
    else setPaused true (emitKey .pause .none s))

/-- stop(), R128: PAUSED is not cleared. -/
def execStop (s : State) : Host.Outcome State Fault Refusal :=
  .next (guarded s fun s => emitKey .stop .none s)

/-- next(), R129. -/
def execNext (s : State) : Host.Outcome State Fault Refusal :=
  .next (guarded s fun s => emitKey .next .none s)

/-- prev(), R130. -/
def execPrev (s : State) : Host.Outcome State Fault Refusal :=
  .next (guarded s fun s => emitKey .prev .none s)

end Sys2Proof.Machine
end

