-- ==== Sys2Proof/Machine/System.lean ====
section
/-! DEFINITION. The system operations (spec/42_facade_system.md): init, selectDevice, and a request with a
reserved selector. -/

namespace Sys2Proof.Machine

/-- init(tx, rx, baud), R150: no guard; TCFG, INIT, then `TxConfig`, then `Delay(T_INIT_MS)`; PAUSED is
kept, and no frame is emitted. -/
def execInit (tx rx : Pin) (baud : Baud) (s : State) : Host.Outcome State Fault Refusal :=
  .next (delay (tInitMs s.cfg) (txConfig tx rx baud (setInit (setTcfg tx rx baud s))))

/-- selectDevice(), R151: the guard, the frame, then `Delay(T_SEL_MS)`. -/
def execSelectDevice (s : State) : Host.Outcome State Fault Refusal :=
  .next (guarded s fun s =>
    delay (tSelMs s.cfg) (emitKey .selectDevice (.one (selParam s.cfg s.cfg.variant)) s))

/-- A request with a reserved selector, R152: consumed, and nothing happens, in either state. -/
def execReserved (_op : Byte) (s : State) : Host.Outcome State Fault Refusal :=
  .next s

end Sys2Proof.Machine
end

