-- ==== Sys2Proof/Machine/Wire.lean ====
section
/-! DEFINITION. The 28 wire commands (spec/30_encoding.md R84): the emission, by the sequencer, of the frame of
one command key in one format. Each is one `wireCommand`; what the operation that emits it does besides
(the clamp, PAUSED, the delay) is that operation's. -/

namespace Sys2Proof.Machine

/-- C.SELECT_DEVICE, emitted by the operation of R151. -/
def execCSelectDevice (s : State) : Host.Outcome State Fault Refusal :=
  .next (wireCommand .C .selectDevice (.one (selParam s.cfg .C)) s)

/-- C.SET_VOLUME, emitted by the operation of R121. -/
def execCSetVolume (level : Byte) (s : State) : Host.Outcome State Fault Refusal :=
  .next (wireCommand .C .setVolume (.one level) s)

/-- C.PLAY_INDEX, emitted by the operation of R122. -/
def execCPlayIndex (hi lo : Byte) (s : State) : Host.Outcome State Fault Refusal :=
  .next (wireCommand .C .playIndex (.two hi lo) s)

/-- C.PLAY_MP3_FOLDER, emitted by the operation of R124. -/
def execCPlayMp3Folder (hi lo : Byte) (s : State) : Host.Outcome State Fault Refusal :=
  .next (wireCommand .C .playMp3Folder (.two hi lo) s)

/-- C.PLAY_FOLDER_TRACK, emitted by the operation of R123. -/
def execCPlayFolderTrack (folder track : Byte) (s : State) : Host.Outcome State Fault Refusal :=
  .next (wireCommand .C .playFolderTrack (.two folder track) s)

/-- C.STOP, emitted by the operation of R128. -/
def execCStop (s : State) : Host.Outcome State Fault Refusal :=
  .next (wireCommand .C .stop .none s)

/-- C.PAUSE, emitted by the operation of R127. -/
def execCPause (s : State) : Host.Outcome State Fault Refusal :=
  .next (wireCommand .C .pause .none s)

/-- C.RESUME, emitted by the operation of R127. -/
def execCResume (s : State) : Host.Outcome State Fault Refusal :=
  .next (wireCommand .C .resume .none s)

/-- C.NEXT, emitted by the operation of R129. -/
def execCNext (s : State) : Host.Outcome State Fault Refusal :=
  .next (wireCommand .C .next .none s)

/-- C.PREV, emitted by the operation of R130. -/
def execCPrev (s : State) : Host.Outcome State Fault Refusal :=
  .next (wireCommand .C .prev .none s)

/-- C.SET_EQ, emitted by the operation of R125. -/
def execCSetEq (code : Byte) (s : State) : Host.Outcome State Fault Refusal :=
  .next (wireCommand .C .setEq (.one code) s)

/-- C.SET_PLAY_MODE, emitted by the operation of R126. -/
def execCSetPlayMode (dh dl : Byte) (s : State) : Host.Outcome State Fault Refusal :=
  .next (wireCommand .C .setPlayMode (.two dh dl) s)

/-- C.LOOP_FOLDER, emitted by the operation of R126. -/
def execCLoopFolder (dh dl : Byte) (s : State) : Host.Outcome State Fault Refusal :=
  .next (wireCommand .C .loopFolder (.two dh dl) s)

/-- C.SHUFFLE_FOLDER, emitted by the operation of R126. -/
def execCShuffleFolder (dh dl : Byte) (s : State) : Host.Outcome State Fault Refusal :=
  .next (wireCommand .C .shuffleFolder (.two dh dl) s)

/-- S.SELECT_DEVICE, emitted by the operation of R151. -/
def execSSelectDevice (s : State) : Host.Outcome State Fault Refusal :=
  .next (wireCommand .S .selectDevice (.one (selParam s.cfg .S)) s)

/-- S.SET_VOLUME, emitted by the operation of R121. -/
def execSSetVolume (level : Byte) (s : State) : Host.Outcome State Fault Refusal :=
  .next (wireCommand .S .setVolume (.one level) s)

/-- S.PLAY_INDEX, emitted by the operation of R122. -/
def execSPlayIndex (hi lo : Byte) (s : State) : Host.Outcome State Fault Refusal :=
  .next (wireCommand .S .playIndex (.two hi lo) s)

/-- S.PLAY_MP3_FOLDER, emitted by the operation of R124. -/
def execSPlayMp3Folder (hi lo : Byte) (s : State) : Host.Outcome State Fault Refusal :=
  .next (wireCommand .S .playMp3Folder (.two hi lo) s)

/-- S.PLAY_FOLDER_TRACK, emitted by the operation of R123. -/
def execSPlayFolderTrack (folder track : Byte) (s : State) : Host.Outcome State Fault Refusal :=
  .next (wireCommand .S .playFolderTrack (.two folder track) s)

/-- S.STOP, emitted by the operation of R128. -/
def execSStop (s : State) : Host.Outcome State Fault Refusal :=
  .next (wireCommand .S .stop .none s)

/-- S.PAUSE, emitted by the operation of R127. -/
def execSPause (s : State) : Host.Outcome State Fault Refusal :=
  .next (wireCommand .S .pause .none s)

/-- S.RESUME, emitted by the operation of R127. -/
def execSResume (s : State) : Host.Outcome State Fault Refusal :=
  .next (wireCommand .S .resume .none s)

/-- S.NEXT, emitted by the operation of R129. -/
def execSNext (s : State) : Host.Outcome State Fault Refusal :=
  .next (wireCommand .S .next .none s)

/-- S.PREV, emitted by the operation of R130. -/
def execSPrev (s : State) : Host.Outcome State Fault Refusal :=
  .next (wireCommand .S .prev .none s)

/-- S.SET_EQ, emitted by the operation of R125. -/
def execSSetEq (code : Byte) (s : State) : Host.Outcome State Fault Refusal :=
  .next (wireCommand .S .setEq (.one code) s)

/-- S.SET_PLAY_MODE, emitted by the operation of R126. -/
def execSSetPlayMode (ps : Params) (s : State) : Host.Outcome State Fault Refusal :=
  .next (wireCommand .S .setPlayMode ps s)

/-- S.LOOP_FOLDER, emitted by the operation of R126. -/
def execSLoopFolder (ps : Params) (s : State) : Host.Outcome State Fault Refusal :=
  .next (wireCommand .S .loopFolder ps s)

/-- S.SHUFFLE_FOLDER, emitted by the operation of R126. -/
def execSShuffleFolder (ps : Params) (s : State) : Host.Outcome State Fault Refusal :=
  .next (wireCommand .S .shuffleFolder ps s)

end Sys2Proof.Machine
end

