-- ==== Sys2Proof/Machine/Dispatch.lean ====
section
/-! DEFINITION. `exec`: one arm for each constructor of `Instr`. -/

namespace Sys2Proof.Machine

def exec (i : Instr) (s : State) : Host.Outcome State Fault Refusal :=
  match i with
  | .init tx rx baud => Sys2Proof.Machine.execInit tx rx baud s
  | .selectDevice => Sys2Proof.Machine.execSelectDevice s
  | .setVolume level => Sys2Proof.Machine.execSetVolume level s
  | .playByIndex index => Sys2Proof.Machine.execPlayByIndex index s
  | .playInFolder folder track => Sys2Proof.Machine.execPlayInFolder folder track s
  | .playFromNamedFolder index => Sys2Proof.Machine.execPlayFromNamedFolder index s
  | .setEqualizer mode => Sys2Proof.Machine.execSetEqualizer mode s
  | .setPlayMode mode => Sys2Proof.Machine.execSetPlayMode mode s
  | .pauseResume => Sys2Proof.Machine.execPauseResume s
  | .stop => Sys2Proof.Machine.execStop s
  | .next => Sys2Proof.Machine.execNext s
  | .prev => Sys2Proof.Machine.execPrev s
  | .reserved op => Sys2Proof.Machine.execReserved op s
  | .buildC cmd dh dl => Sys2Proof.Machine.execBuildC cmd dh dl s
  | .buildS cmd ps => Sys2Proof.Machine.execBuildS cmd ps s
  | .cSelectDevice => Sys2Proof.Machine.execCSelectDevice s
  | .cSetVolume level => Sys2Proof.Machine.execCSetVolume level s
  | .cPlayIndex hi lo => Sys2Proof.Machine.execCPlayIndex hi lo s
  | .cPlayMp3Folder hi lo => Sys2Proof.Machine.execCPlayMp3Folder hi lo s
  | .cPlayFolderTrack folder track => Sys2Proof.Machine.execCPlayFolderTrack folder track s
  | .cStop => Sys2Proof.Machine.execCStop s
  | .cPause => Sys2Proof.Machine.execCPause s
  | .cResume => Sys2Proof.Machine.execCResume s
  | .cNext => Sys2Proof.Machine.execCNext s
  | .cPrev => Sys2Proof.Machine.execCPrev s
  | .cSetEq code => Sys2Proof.Machine.execCSetEq code s
  | .cSetPlayMode dh dl => Sys2Proof.Machine.execCSetPlayMode dh dl s
  | .cLoopFolder dh dl => Sys2Proof.Machine.execCLoopFolder dh dl s
  | .cShuffleFolder dh dl => Sys2Proof.Machine.execCShuffleFolder dh dl s
  | .sSelectDevice => Sys2Proof.Machine.execSSelectDevice s
  | .sSetVolume level => Sys2Proof.Machine.execSSetVolume level s
  | .sPlayIndex hi lo => Sys2Proof.Machine.execSPlayIndex hi lo s
  | .sPlayMp3Folder hi lo => Sys2Proof.Machine.execSPlayMp3Folder hi lo s
  | .sPlayFolderTrack folder track => Sys2Proof.Machine.execSPlayFolderTrack folder track s
  | .sStop => Sys2Proof.Machine.execSStop s
  | .sPause => Sys2Proof.Machine.execSPause s
  | .sResume => Sys2Proof.Machine.execSResume s
  | .sNext => Sys2Proof.Machine.execSNext s
  | .sPrev => Sys2Proof.Machine.execSPrev s
  | .sSetEq code => Sys2Proof.Machine.execSSetEq code s
  | .sSetPlayMode ps => Sys2Proof.Machine.execSSetPlayMode ps s
  | .sLoopFolder ps => Sys2Proof.Machine.execSLoopFolder ps s
  | .sShuffleFolder ps => Sys2Proof.Machine.execSShuffleFolder ps s

end Sys2Proof.Machine
end

