-- ==== Sys2Proof/Machine/Step.lean ====
section
/-! DEFINITION. One step: the block takes the next thing its ports present and processes it whole
(spec/20_memory.md R56; spec/10_state.md R21). -/

namespace Sys2Proof.Machine

/-- One step. With nothing presented the block waits (R171, R183, R187) and nothing changes. Otherwise the
head of the list is consumed and carried out to completion before the next is looked at (R56). -/
def step (s : State) : Host.Outcome State Fault Refusal :=
  match s.pending with
  | [] => .next s
  | p :: rest =>
    match decode s.cfg p with
    | .ok i => exec i { s with pending := rest }
    | .error e => .refused (.undecodable e)

/-- The state in which the word of the table is presented next (the host's part of R21). -/
def State.withFetchWord (s : State) (nbits w : Nat) : State :=
  { s with pending := tableWord nbits w :: s.pending }

end Sys2Proof.Machine
end

