-- ==== Sys2Proof/Safety.lean ====
section
/-! DEFINITION. The terms claims are stated in: the frames the rules of spec/41_facade_playback.md and
spec/42_facade_system.md write out, classes of instructions, the invariant of spec/10_state.md R35 with what
the other whole-machine rules add to it, and runs.

What a safe run is: every step answers a next state, as it does for whatever a host can form (`hostCanForm`),
and `Inv` holds throughout. -/

namespace Sys2Proof.Machine

/-! ### Frames as the rules write them -/

/-- First byte of `ck(x)`: `hi8(0xFEFA - x)`, x = cmd + dh + dl (R106, and the notation of 41_facade_playback.md). -/
def ckHi (x : Nat) : Byte := BitVec.ofNat 8 ((0xFEFA - x) / 256)

/-- Second byte of `ck(x)`: `lo8(0xFEFA - x)`. -/
def ckLo (x : Nat) : Byte := BitVec.ofNat 8 ((0xFEFA - x) % 256)

/-- The frame of opcode byte `o` and 0, 1 or 2 parameters, byte by byte as the "Emitted frame" lines of R121 to
R130 and R151 list it, with the closed form of the checksum (R71, R72, R81, R106). Written without the codec. -/
def frameTemplate : Variant → Byte → Params → List Byte
  | .C, o, .none =>
    [0x7E#8, 0xFF#8, 0x06#8, o, 0x00#8, 0x00#8, 0x00#8, ckHi o.toNat, ckLo o.toNat, 0xEF#8]
  | .C, o, .one p =>
    [0x7E#8, 0xFF#8, 0x06#8, o, 0x00#8, 0x00#8, p, ckHi (o.toNat + p.toNat), ckLo (o.toNat + p.toNat), 0xEF#8]
  | .C, o, .two a b =>
    [0x7E#8, 0xFF#8, 0x06#8, o, 0x00#8, a, b, ckHi (o.toNat + a.toNat + b.toNat),
     ckLo (o.toNat + a.toNat + b.toNat), 0xEF#8]
  | .S, o, .none => [0x7E#8, 0x02#8, o, 0x7E#8]
  | .S, o, .one p => [0x7E#8, 0x03#8, o, p, 0x7E#8]
  | .S, o, .two a b => [0x7E#8, 0x04#8, o, a, b, 0x7E#8]

/-- `n` is the value of the range `lo` .. `hi` nearest to `x` (R12, R80). -/
def NearestIn (x lo hi : Int) (n : Nat) : Prop :=
  (x < lo ∧ (n : Int) = lo) ∨ (hi < x ∧ (n : Int) = hi) ∨ (lo ≤ x ∧ x ≤ hi ∧ (n : Int) = x)

/-! ### Classes of instructions -/

/-- The ten playback operations (41_facade_playback.md). -/
def isPlayback : Instr → Bool
  | .setVolume _ | .playByIndex _ | .playInFolder _ _ | .playFromNamedFolder _ => true
  | .setEqualizer _ | .setPlayMode _ | .pauseResume | .stop | .next | .prev => true
  | .init _ _ _ | .selectDevice | .reserved _ | .buildC _ _ _ | .buildS _ _ => false
  | .cSelectDevice | .cSetVolume _ | .cPlayIndex _ _ | .cPlayMp3Folder _ _ => false
  | .cPlayFolderTrack _ _ | .cStop | .cPause | .cResume | .cNext | .cPrev => false
  | .cSetEq _ | .cSetPlayMode _ _ | .cLoopFolder _ _ | .cShuffleFolder _ _ => false
  | .sSelectDevice | .sSetVolume _ | .sPlayIndex _ _ | .sPlayMp3Folder _ _ => false
  | .sPlayFolderTrack _ _ | .sStop | .sPause | .sResume | .sNext | .sPrev => false
  | .sSetEq _ | .sSetPlayMode _ | .sLoopFolder _ | .sShuffleFolder _ => false

/-- The eleven operations that begin with the guard: the ten and selectDevice (R120, R161). -/
def isGuarded : Instr → Bool
  | .selectDevice => true
  | .setVolume _ | .playByIndex _ | .playInFolder _ _ | .playFromNamedFolder _ => true
  | .setEqualizer _ | .setPlayMode _ | .pauseResume | .stop | .next | .prev => true
  | .init _ _ _ | .reserved _ | .buildC _ _ _ | .buildS _ _ => false
  | .cSelectDevice | .cSetVolume _ | .cPlayIndex _ _ | .cPlayMp3Folder _ _ => false
  | .cPlayFolderTrack _ _ | .cStop | .cPause | .cResume | .cNext | .cPrev => false
  | .cSetEq _ | .cSetPlayMode _ _ | .cLoopFolder _ _ | .cShuffleFolder _ _ => false
  | .sSelectDevice | .sSetVolume _ | .sPlayIndex _ _ | .sPlayMp3Folder _ _ => false
  | .sPlayFolderTrack _ _ | .sStop | .sPause | .sResume | .sNext | .sPrev => false
  | .sSetEq _ | .sSetPlayMode _ | .sLoopFolder _ | .sShuffleFolder _ => false

/-- The init operation. -/
def isInit : Instr → Bool
  | .init _ _ _ => true
  | _ => false

/-! ### The event log -/

/-- A `TX` element. -/
def Event.isTx : Event → Bool
  | .tx _ => true
  | _ => false

/-- A `DELAY` element. -/
def Event.isDelay : Event → Bool
  | .delay _ => true
  | _ => false

/-- A `CFG` element. -/
def Event.isConfig : Event → Bool
  | .config _ _ _ => true
  | _ => false

/-- What one event leaves as the configuration in force, `acc` being in force before it. -/
def configAfter (acc : Option TransportConfig) : Event → Option TransportConfig
  | .config tx rx baud => some ⟨tx, rx, baud⟩
  | .tx _ => acc
  | .delay _ => acc

/-- The transport configuration in force at the end of a log: that of its latest `CFG` element (R62). -/
def latestConfig (log : List Event) : Option TransportConfig := log.foldl configAfter none

/-- What `EVLOG` may hold on an SMP3-FE strapped to `c`: `TX` of a frame in the format of its variant with 0 to 2
parameters (R55, R71, R72, R74, R89), `DELAY` of one of the two settling times (R153, R170), `CFG` of anything. -/
def Event.legal (c : Cfg) : Event → Prop
  | .tx f => ∃ (cmd : Byte) (ps : Params), f = frameTemplate c.variant cmd ps
  | .delay ms => ms = tInitMs c ∨ ms = tSelMs c
  | .config _ _ _ => True

/-! ### The invariant -/

/-- What holds of the block in every state a run reaches (R35, R62, R89, R170). -/
structure Inv (s : State) : Prop where
  /-- R35 (b): while INIT is 0, PAUSED is 0 and `EVLOG` is empty -/
  silent : s.init = false → s.paused = false ∧ s.evlog = []
  /-- R35 (c): `EVLOG` begins with a `CFG` element whenever it is not empty -/
  configFirst : ∀ e rest, s.evlog = e :: rest → e.isConfig = true
  /-- R62: in Ready, TCFG holds what the latest `CFG` element carried, and there is one -/
  current : s.init = true → latestConfig s.evlog = some s.tcfg
  /-- every event is one this SMP3-FE can produce -/
  legal : ∀ e ∈ s.evlog, e.legal s.cfg

/-! ### Runs -/

/-- `k` steps, stopping at a fault or a refusal (R187: a run is a finite sequence of requests, each carried out
whole). -/
def run : Nat → State → Host.Outcome State Fault Refusal
  | 0, s => .next s
  | k + 1, s =>
    match step s with
    | .next s' => run k s'
    | .fault r => .fault r
    | .refused r => .refused r

/-- A state with other request words presented. -/
def withRequests (s : State) (qs : List Request) : State := { s with pending := qs.map .command }

/-! ### What the ports present -/

/-- What a host can form: every request word, every BUILD_C call, a BUILD_S call of at most `NPARAM_MAX`
parameters (R87, R107, R108), and nothing on the sequencer's side of the TX port (R105, R188). -/
def hostCanForm (c : Cfg) : PortWord → Bool
  | .command _ => true
  | .codecC _ _ _ => true
  | .codecS _ ps => decide (ps.length ≤ nparamMax c)
  | .wire _ => false

/-- The selectors of the eleven operations that write one frame each in Ready: 0x02 to 0x0C (R55, R77). -/
def writesFrame (q : Request) : Bool :=
  decide (2 ≤ (opField q).toNat ∧ (opField q).toNat ≤ 12)

/-- The selector of pauseResume (R77). -/
def togglesPaused (q : Request) : Bool := opField q == 0x09#8

/-- Two request words agree on OP and on every field that R77 does not mark "ignored" for that OP: A for 0x01 and
0x03 to 0x08, B for 0x01 and 0x05. -/
def agreeOnUsedFields (q q' : Request) : Prop :=
  opField q = opField q' ∧
  ((opField q).toNat = 1 ∨ (3 ≤ (opField q).toNat ∧ (opField q).toNat ≤ 8) → aField q = aField q') ∧
  ((opField q).toNat = 1 ∨ (opField q).toNat = 5 → bField q = bField q')

/-- The opcode bytes of variant `v` are all different. The spec does not require it (R84); a claim that reads a key
from a frame takes it as a premise. -/
abbrev opcodesDistinct (c : Cfg) (v : Variant) : Prop := (allKeys.map (opc c v)).Nodup

/-- The instruction is a wire command of variant `v`, or stands on another port. -/
def ofVariant (v : Variant) : Instr → Bool
  | .sSelectDevice | .sSetVolume _ | .sPlayIndex _ _ | .sPlayMp3Folder _ _ => v == .S
  | .sPlayFolderTrack _ _ | .sStop | .sPause | .sResume | .sNext | .sPrev => v == .S
  | .sSetEq _ | .sSetPlayMode _ | .sLoopFolder _ | .sShuffleFolder _ => v == .S
  | .cSelectDevice | .cSetVolume _ | .cPlayIndex _ _ | .cPlayMp3Folder _ _ => v == .C
  | .cPlayFolderTrack _ _ | .cStop | .cPause | .cResume | .cNext | .cPrev => v == .C
  | .cSetEq _ | .cSetPlayMode _ _ | .cLoopFolder _ _ | .cShuffleFolder _ _ => v == .C
  | .init _ _ _ | .selectDevice | .setVolume _ | .playByIndex _ | .playInFolder _ _ => true
  | .playFromNamedFolder _ | .setEqualizer _ | .setPlayMode _ | .pauseResume => true
  | .stop | .next | .prev | .reserved _ | .buildC _ _ _ | .buildS _ _ => true

end Sys2Proof.Machine
end

