-- ==== Sys2Proof/Certificates/Slice0/Obligations.lean ====
section
/-! DEFINITION. The statements about SMP3-FE, for the provers. Each docstring names the rule it states, or says
that it rests on a choice of the model and names the log entry.

A frame in a statement is `frameTemplate`, the bytes as the rules list them, never the codec the model runs. A
statement that an instruction answers `{ s with … }` is its frame as well: every field not named is unchanged.

Many rules of this spec are its own decisions (92_eei_decisions.md, D1 to D33). A docstring names the decisions its
statement rests on. The two that every format C frame with fewer than two parameters rests on are D3 (an argument is
signed, 32 bits) and D12 (DH = 0x00, DL = the parameter or 0x00); see log 10. -/

open Sys2Proof Sys2Proof.Machine

/-! ### Steps, words and the decoder -/

/-- R56, R21 (decisions D2, D26): what the ports present next is decoded and carried out whole; around it a step only
takes it off the list. -/
def Obligations.StepRunsTheDecodedInstruction : Prop :=
  ∀ (s : State) (p : PortWord) (rest : List PortWord) (i : Instr),
    s.pending = p :: rest → decode s.cfg p = .ok i → step s = exec i { s with pending := rest }

/-- R171, R183: with nothing presented the block waits; that a step then leaves the state as it is is the model's choice
(log 7). -/
def Obligations.StepWaitsForARequest : Prop :=
  ∀ s : State, s.pending = [] → step s = .next s

/-- R76, R77: the fields of Q by position, and the operation each selector names: the spec's own decisions D4, D5, D6. -/
def Obligations.SelectorNamesTheOperation : Prop :=
  ∀ (c : Cfg) (q : Request),
    let op := q.toNat / 2 ^ 64
    let a := BitVec.ofNat 32 (q.toNat / 2 ^ 32)
    let b := BitVec.ofNat 32 q.toNat
    decode c (.command q) = .ok (
      if op = 0x01 then .init (BitVec.ofNat 16 q.toNat) (BitVec.ofNat 16 (q.toNat / 2 ^ 16)) a
      else if op = 0x02 then .selectDevice
      else if op = 0x03 then .setVolume a
      else if op = 0x04 then .playByIndex a
      else if op = 0x05 then .playInFolder a b
      else if op = 0x06 then .playFromNamedFolder a
      else if op = 0x07 then .setEqualizer a
      else if op = 0x08 then .setPlayMode a
      else if op = 0x09 then .pauseResume
      else if op = 0x0A then .stop
      else if op = 0x0B then .next
      else if op = 0x0C then .prev
      else .reserved (BitVec.ofNat 8 op))

/-- R78: the arguments of the six operations that have one are A[30:0] minus 2^31 times A[31], A being Q[63:32], and
for the track of playInFolder the same of B, which is Q[31:0]; nothing is scaled or shifted (decision D3). -/
def Obligations.ArgumentsAreTwosComplement : Prop :=
  ∀ (c : Cfg) (q : Request),
    let op := q.toNat / 2 ^ 64
    3 ≤ op → op ≤ 8 →
    ∃ a b : Arg,
      a.toInt = ((q.toNat / 2 ^ 32 % 2 ^ 31 : Nat) : Int) - 2 ^ 31 * ((q.toNat / 2 ^ 63 % 2 : Nat) : Int) ∧
      b.toInt = ((q.toNat % 2 ^ 31 : Nat) : Int) - 2 ^ 31 * ((q.toNat / 2 ^ 31 % 2 : Nat) : Int) ∧
      decode c (.command q) = .ok (
        if op = 3 then .setVolume a
        else if op = 4 then .playByIndex a
        else if op = 5 then .playInFolder a b
        else if op = 6 then .playFromNamedFolder a
        else if op = 7 then .setEqualizer a
        else .setPlayMode a)

/-- R79 (decision D7): two requests that differ only in ignored fields behave the same, whatever the state. -/
def Obligations.IgnoredFieldsHaveNoEffect : Prop :=
  ∀ (s : State) (q q' : Request), agreeOnUsedFields q q' →
    step { s with pending := .command q :: s.pending } = step { s with pending := .command q' :: s.pending }

/-- Decode and encode agree on everything a host can send, with every operand at every value. -/
def Obligations.DecodeEncodeOnTheHostPorts : Prop :=
  ∀ (c : Cfg) (i : Instr), wellFormed i = true → i.port ≠ .wire → decode c (encode c i) = .ok i

/-- Decode and encode agree on the 28 wire commands, with every operand at every value, when the opcode bytes of
their variant are all different; the spec does not require that (R84), so it is a premise. -/
def Obligations.DecodeEncodeOnTheWire : Prop :=
  ∀ (c : Cfg) (v : Variant) (i : Instr), opcodesDistinct c v → ofVariant v i = true → i.port = .wire →
    decode c (encode c i) = .ok i

/-- A frame is read as format C or S exactly when BUILD_C or BUILD_S builds it from what is read, for BUILD_S of at
most 253 parameters (R74, R108): no bit is dropped and the formats are never confused. -/
def Obligations.FramesAreReadExactly : Prop :=
  ∀ f : List Byte,
    (∀ cmd dh dl, parseFrame f = .ok (.C cmd dh dl) ↔ f = buildC cmd dh dl) ∧
    (∀ cmd ps, parseFrame f = .ok (.S cmd ps) ↔ f = buildS cmd ps ∧ ps.length ≤ 253)

/-- Whatever bytes the decoder names as a wire command, carrying that command out, in Ready and in the variant of the
frame, hands exactly those bytes to the transport. That a wire command can be carried out alone, and then writes its
frame, is the model's choice (log 3): the rows are those of R84, but no rule gives the host such a step (R105). Bytes that
decode to nothing are not spoken of. This holds also where two keys share an opcode byte (log 4). -/
def Obligations.DecodedWireBytesAreTheBytesWritten : Prop :=
  ∀ (s : State) (f : List Byte) (i : Instr), decode s.cfg (.wire f) = .ok i → s.init = true →
    ofVariant s.cfg.variant i = true → exec i s = .next { s with evlog := s.evlog ++ [.tx f] }

/-- Words of the spec's vectors decode as the model reads them: the request words by R76 and R77 (95_test_vectors.md,
sections 3 and 4, the stop among them with its ignored fields filled), the frames (its sections 1 and 2) by the model's
reading of a table word (log 6). By that choice the frames with CMD 0x0F and 0xA0, which are words of C.PLAY_FOLDER_TRACK
and S.PLAY_INDEX too, are the codec calls that build them, and D0's frame with the wrong checksum is nothing. -/
def Obligations.SpecWordsDecode : Prop :=
  decodeTableWord 72 0x010000258000020001 = some (.init 1#16 2#16 9600#32) ∧
  decodeTableWord 72 0x03000003E700000000 = some (.setVolume 999#32) ∧
  decodeTableWord 72 0x05000000000000012C = some (.playInFolder 0#32 300#32) ∧
  decodeTableWord 72 0x0ADEADBEEF12345678 = some .stop ∧
  decodeTableWord 72 0xFF0000000000000000 = some (.reserved 0xFF#8) ∧
  decodeTableWord 80 0x7EFF060F00030AFEDEEF = some (.buildC 0x0F#8 0x03#8 0x0A#8) ∧
  decodeTableWord 80 0x7EFF060F00030AFEE2EF = none ∧
  decodeTableWord 48 0x7E04A0012C7E = some (.buildS 0xA0#8 [0x01#8, 0x2C#8]) ∧
  decodeTableWord 32 0x7E02A07E = some (.buildS 0xA0#8 [])

/-- The word placed to be presented next is the word the next step runs (R21, R56). How a table word is read is the
model's choice (log 6), and so is the refusal, under a name, of a word that decodes to nothing (log 3); no rule speaks
of either. -/
def Obligations.FetchWordRunsNext : Prop :=
  ∀ (s : State) (nbits w : Nat),
    (∀ i, decodeTableWord nbits w = some i → step (s.withFetchWord nbits w) = exec i s) ∧
    (decodeTableWord nbits w = none → ∃ e, step (s.withFetchWord nbits w) = .refused (.undecodable e))

/-! ### Configuration and reset -/

/-- R8: what D0 fixes of `CFG`, for every configuration, and that `VARIANT`, `VOL_MAX` and `IDX_MAX` are tied to one
another in no way: every combination of them is a configuration. With them the bounds R7 puts on `T_INIT_MS` and
`NPARAM_MAX`. -/
def Obligations.ConfigurationConstraints : Prop :=
  (∀ c : Cfg,
    (volMax c = 30 ∨ volMax c = 31) ∧
    (idxMax c = 2999 ∨ idxMax c = 3000 ∨ idxMax c = 65535) ∧
    opc c .C .playFolderTrack = 0x0F#8 ∧ opc c .S .playIndex = 0xA0#8 ∧
    (100 ≤ tInitMs c ∧ tInitMs c ≤ 200) ∧ nparamMax c ≤ 253) ∧
  (∀ v : Variant, ∀ vol ∈ [30, 31], ∀ idx ∈ [2999, 3000, 65535],
    ∃ c : Cfg, c.variant = v ∧ volMax c = vol ∧ idxMax c = idx)

/-- R181: the state after reset, for every configuration, and the same of `State.reset`. TCFG holds `TXPIN_RST`,
`RXPIN_RST`, `BAUD_RST` of the straps, which R7 names and leaves unspecified; that straps hold them is the model's choice
(log 1). The other values are decision D22. -/
def Obligations.ResetLeavesUninitialized : Prop :=
  (∀ c : Cfg,
    (State.resetWith c).init = false ∧ (State.resetWith c).paused = false ∧
    (State.resetWith c).tcfg = ⟨c.txpinRst, c.rxpinRst, c.baudRst⟩ ∧
    (State.resetWith c).evlog = [] ∧ (State.resetWith c).cfg = c) ∧
  State.reset = State.resetWith State.reset.cfg

/-- R24 (decision D31): the layout of TCFG, TXPIN in 15:0, RXPIN in 31:16, BAUD in 63:32. -/
def Obligations.TcfgLayout : Prop :=
  ∀ t : TransportConfig,
    (tcfgWord t).toNat = t.txpin.toNat + 2 ^ 16 * t.rxpin.toNat + 2 ^ 32 * t.baud.toNat

/-! ### The codec -/

/-- R100, R101, R102: the sum, the checksum as its one's complement, and the accumulator, which gives the same in
whatever order the six fields are added (decision D33; that the complement is the subtraction is derived in R101). -/
def Obligations.ChecksumIsTheComplementedSum : Prop :=
  ∀ cmd dh dl : Byte,
    (sum16 cmd dh dl).toNat = (0xFF + 0x06 + cmd.toNat + 0x00 + dh.toNat + dl.toNat) % 0x10000 ∧
    (ck16 cmd dh dl).toNat = (0xFFFF - (sum16 cmd dh dl).toNat) % 0x10000 ∧
    ck16 cmd dh dl = ~~~ sum16 cmd dh dl ∧
    (ck16 cmd dh dl).toNat + (sum16 cmd dh dl).toNat = 0xFFFF ∧
    ckHigh cmd dh dl = hi8 (ck16 cmd dh dl).toNat ∧ ckLow cmd dh dl = lo8 (ck16 cmd dh dl).toNat ∧
    (ckHigh cmd dh dl).toNat = (ck16 cmd dh dl).toNat >>> 8 &&& 0xFF ∧
    (ckLow cmd dh dl).toNat = (ck16 cmd dh dl).toNat &&& 0xFF ∧
    ∀ fs : List Byte, fs.Perm [0xFF#8, 0x06#8, cmd, 0x00#8, dh, dl] → sumFields fs ^^^ 0xFFFF#16 = ck16 cmd dh dl

/-- R106 (derived there): the ranges of the sum and of the checksum with byte inputs, and the closed form. -/
def Obligations.ChecksumRanges : Prop :=
  ∀ cmd dh dl : Byte,
    0x0105 ≤ (sum16 cmd dh dl).toNat ∧ (sum16 cmd dh dl).toNat ≤ 0x0402 ∧
    (ck16 cmd dh dl).toNat = 0xFEFA - (cmd.toNat + dh.toNat + dl.toNat) ∧
    (ckHigh cmd dh dl = 0xFB#8 ∨ ckHigh cmd dh dl = 0xFC#8 ∨ ckHigh cmd dh dl = 0xFD#8 ∨
      ckHigh cmd dh dl = 0xFE#8)

/-- R71, R103: the ten bytes of BUILD_C. -/
def Obligations.BuildChecksummedFrameBytes : Prop :=
  ∀ cmd dh dl : Byte,
    buildC cmd dh dl =
      [0x7E#8, 0xFF#8, 0x06#8, cmd, 0x00#8, dh, dl,
       BitVec.ofNat 8 ((0xFFFF - (0xFF + 0x06 + cmd.toNat + dh.toNat + dl.toNat)) / 256),
       BitVec.ofNat 8 (0xFFFF - (0xFF + 0x06 + cmd.toNat + dh.toNat + dl.toNat)), 0xEF#8]

/-- R72, R104: the bytes of BUILD_S for every number of parameters, LEN being 2+N while that fits a byte and
wrapping from N = 254 on. -/
def Obligations.BuildSimpleFrameBytes : Prop :=
  ∀ (cmd : Byte) (ps : List Byte),
    ∃ len : Byte, buildS cmd ps = 0x7E#8 :: len :: cmd :: (ps ++ [0x7E#8]) ∧
      len.toNat = (2 + ps.length) % 256 ∧
      (ps.length ≤ 253 → len.toNat = 2 + ps.length) ∧
      (buildS cmd ps).length = 4 + ps.length

/-- R109 (derived there): laws (a) to (h) of the codec; (i), determinism, is what a function is. -/
def Obligations.CodecLaws : Prop :=
  (∀ c h l : Byte,
    (buildC c h l).length = 10 ∧
    ((buildC c h l)[0]? = some 0x7E#8 ∧ (buildC c h l)[1]? = some 0xFF#8 ∧ (buildC c h l)[2]? = some 0x06#8 ∧
      (buildC c h l)[4]? = some 0x00#8 ∧ (buildC c h l)[9]? = some 0xEF#8) ∧
    ((buildC c h l)[3]? = some c ∧ (buildC c h l)[5]? = some h ∧ (buildC c h l)[6]? = some l) ∧
    (∀ f1 f2 f3 f4 f5 f6 f7 f8 : Byte,
      (buildC c h l).drop 1 = [f1, f2, f3, f4, f5, f6, f7, f8, 0xEF#8] →
      256 * f7.toNat + f8.toNat + f1.toNat + f2.toNat + f3.toNat + f4.toNat + f5.toNat + f6.toNat = 0xFFFF)) ∧
  (∀ (c : Byte) (ps : List Byte),
    (buildS c ps).length = 4 + ps.length ∧
    (ps.length ≤ 253 → ∃ len : Byte, (buildS c ps)[1]? = some len ∧ len.toNat = 2 + ps.length) ∧
    (buildS c ps).head? = some 0x7E#8 ∧ (buildS c ps).getLast? = some 0x7E#8 ∧ (buildS c ps)[2]? = some c ∧
    ((buildS c ps).drop 3).take ps.length = ps) ∧
  (∀ c h l c' h' l' : Byte, buildC c h l = buildC c' h' l' → c = c' ∧ h = h' ∧ l = l') ∧
  (∀ (c c' : Byte) (ps ps' : List Byte), buildS c ps = buildS c' ps' → c = c' ∧ ps = ps')

/-- R107, R108: a codec call is answered with the frame in either state of the sequencer, and nothing else changes;
BUILD_S on lists of at most `NPARAM_MAX`. That the answer is kept in `replies` is the model's choice (log 2). -/
def Obligations.CodecPortAnswersTheFrame : Prop :=
  (∀ (s : State) (cmd dh dl : Byte),
    exec (.buildC cmd dh dl) s = .next { s with replies := s.replies ++
      [[0x7E#8, 0xFF#8, 0x06#8, cmd, 0x00#8, dh, dl, ckHi (cmd.toNat + dh.toNat + dl.toNat),
        ckLo (cmd.toNat + dh.toNat + dl.toNat), 0xEF#8]] }) ∧
  (∀ (s : State) (cmd : Byte) (ps : List Byte), ps.length ≤ nparamMax s.cfg →
    exec (.buildS cmd ps) s = .next { s with replies := s.replies ++
      [[0x7E#8, BitVec.ofNat 8 (2 + ps.length), cmd] ++ ps ++ [0x7E#8]] })

/-- R108, and U18 of 93_implementation_defined.md ("on the port: cannot be formed (refuse)"): a list longer than
`NPARAM_MAX` is refused by name. The refusal is the model's choice among U18's words (log 5). -/
def Obligations.ListsTooLongForThePortAreRefused : Prop :=
  ∀ (s : State) (cmd : Byte) (ps : List Byte), nparamMax s.cfg < ps.length →
    exec (.buildS cmd ps) s = .refused .listCannotBeFormed

/-! ### The system operations -/

/-- R150: init acts in both states; it writes TCFG and INIT, configures the transport, then delays; it keeps PAUSED
and writes no frame (decisions D17, D20; that a reinit delays again is derived in R150). -/
def Obligations.InitConfiguresThenWaits : Prop :=
  ∀ (s : State) (tx rx : Pin) (baud : Baud),
    exec (.init tx rx baud) s =
      .next { s with tcfg := ⟨tx, rx, baud⟩, init := true,
                     evlog := s.evlog ++ [.config tx rx baud, .delay (tInitMs s.cfg)] }

/-- R151: selectDevice writes its frame and then delays (decision D32); in Uninitialized it does nothing. -/
def Obligations.SelectDeviceWritesThenWaits : Prop :=
  ∀ s : State,
    (s.init = false → exec .selectDevice s = .next s) ∧
    (s.init = true → exec .selectDevice s = .next { s with evlog := s.evlog ++
      [.tx (frameTemplate s.cfg.variant (opc s.cfg s.cfg.variant .selectDevice)
        (.one (match s.cfg.variant with | .C => s.cfg.selParamC | .S => s.cfg.selParamS))),
       .delay s.cfg.tSelMs] })

/-- R152, R87: a request with a reserved selector is consumed and does nothing, in either state, whatever A and B
hold: the spec's own decision D6 (log 13). -/
def Obligations.ReservedSelectorsAreConsumed : Prop :=
  (∀ (s : State) (op : Byte), exec (.reserved op) s = .next s) ∧
  (∀ (s : State) (q : Request) (rest : List PortWord), s.pending = .command q :: rest →
    (q.toNat / 2 ^ 64 = 0x00 ∨ 0x0D ≤ q.toNat / 2 ^ 64) → step s = .next { s with pending := rest })

/-- R153: only init and selectDevice call `Delay`; init alone calls `TxConfig`, writes TCFG, writes INIT, or acts on
the sequencer in Uninitialized. -/
def Obligations.OnlyInitConfigures : Prop :=
  ∀ (i : Instr) (s t : State), exec i s = .next t →
    ∃ es, t.evlog = s.evlog ++ es ∧
      (∀ e ∈ es, e.isDelay = true → isInit i = true ∨ i = .selectDevice) ∧
      (∀ e ∈ es, e.isConfig = true → isInit i = true) ∧
      (t.tcfg ≠ s.tcfg → isInit i = true) ∧
      (t.init ≠ s.init → isInit i = true) ∧
      (s.init = false → (es ≠ [] ∨ t.paused ≠ s.paused ∨ t.tcfg ≠ s.tcfg ∨ t.init ≠ s.init) → isInit i = true)

/-! ### The playback operations -/

/-- R120, R161: in Uninitialized each of the eleven guarded operations does nothing at all. -/
def Obligations.UninitializedOperationsDoNothing : Prop :=
  ∀ (i : Instr) (s : State), isGuarded i = true → s.init = false → exec i s = .next s

/-- R121: setVolume, in both states. -/
def Obligations.SetVolumeWritesTheClampedLevel : Prop :=
  ∀ (s : State) (level : Arg) (n : Nat),
    NearestIn level.toInt 0 (match s.cfg.volMax with | .v30 => 30 | .v31 => 31) n →
    (s.init = false → exec (.setVolume level) s = .next s) ∧
    (s.init = true → exec (.setVolume level) s = .next { s with evlog := s.evlog ++
      [.tx (frameTemplate s.cfg.variant (opc s.cfg s.cfg.variant .setVolume) (.one (BitVec.ofNat 8 n)))] })

/-- R122: playByIndex, in both states; the opcode of variant S is 0xA0. -/
def Obligations.PlayByIndexWritesTheClampedIndex : Prop :=
  ∀ (s : State) (index : Arg) (n : Nat),
    NearestIn index.toInt 1 (match s.cfg.idxMax with | .i2999 => 2999 | .i3000 => 3000 | .i65535 => 65535) n →
    (s.init = false → exec (.playByIndex index) s = .next s) ∧
    (s.init = true → exec (.playByIndex index) s = .next { s with evlog := s.evlog ++
      [.tx (frameTemplate s.cfg.variant
        (match s.cfg.variant with | .C => s.cfg.opcC.playIndex | .S => 0xA0#8)
        (.two (BitVec.ofNat 8 (n / 256)) (BitVec.ofNat 8 n)))] })

/-- R123: playInFolder, in both states; folder and track are clamped independently, and the opcode of variant C is
0x0F. -/
def Obligations.PlayInFolderWritesFolderAndTrack : Prop :=
  ∀ (s : State) (folder track : Arg) (f t : Nat),
    NearestIn folder.toInt 1 99 f → NearestIn track.toInt 1 255 t →
    (s.init = false → exec (.playInFolder folder track) s = .next s) ∧
    (s.init = true → exec (.playInFolder folder track) s = .next { s with evlog := s.evlog ++
      [.tx (frameTemplate s.cfg.variant
        (match s.cfg.variant with | .C => 0x0F#8 | .S => s.cfg.opcS.playFolderTrack)
        (.two (BitVec.ofNat 8 f) (BitVec.ofNat 8 t)))] })

/-- R124: playFromNamedFolder, in both states, with the `IDX_MAX` of playByIndex (decision D10). -/
def Obligations.PlayFromNamedFolderWritesTheClampedIndex : Prop :=
  ∀ (s : State) (index : Arg) (n : Nat),
    NearestIn index.toInt 1 (match s.cfg.idxMax with | .i2999 => 2999 | .i3000 => 3000 | .i65535 => 65535) n →
    (s.init = false → exec (.playFromNamedFolder index) s = .next s) ∧
    (s.init = true → exec (.playFromNamedFolder index) s = .next { s with evlog := s.evlog ++
      [.tx (frameTemplate s.cfg.variant (opc s.cfg s.cfg.variant .playMp3Folder)
        (.two (BitVec.ofNat 8 (n / 256)) (BitVec.ofNat 8 n)))] })

/-- R125: setEqualizer, in both states; e is `EQ_CODE[m]`. That a mode out of range is clamped is decision D13. -/
def Obligations.SetEqualizerWritesTheModesCode : Prop :=
  ∀ (s : State) (mode : Arg) (m : Nat) (e : Byte), NearestIn mode.toInt 0 5 m →
    [s.cfg.eqCode.eq0, s.cfg.eqCode.eq1, s.cfg.eqCode.eq2, s.cfg.eqCode.eq3, s.cfg.eqCode.eq4,
      s.cfg.eqCode.eq5][m]? = some e →
    (s.init = false → exec (.setEqualizer mode) s = .next s) ∧
    (s.init = true → exec (.setEqualizer mode) s = .next { s with evlog := s.evlog ++
      [.tx (frameTemplate s.cfg.variant (opc s.cfg s.cfg.variant .setEq) (.one e))] })

/-- R126: setPlayMode, in both states; opcode and parameters are those of `PM_TABLE[VARIANT][m]`. That a mode
out of range is clamped is decision D13. -/
def Obligations.SetPlayModeWritesTheTableEntry : Prop :=
  ∀ (s : State) (mode : Arg) (m : Nat) (tbl : PmTable) (entry : PmEntry), NearestIn mode.toInt 0 3 m →
    tbl = (match s.cfg.variant with | .C => s.cfg.pmC | .S => s.cfg.pmS) →
    [tbl.loopOff, tbl.repeatCurrent, tbl.loopAll, tbl.shuffle][m]? = some entry →
    (s.init = false → exec (.setPlayMode mode) s = .next s) ∧
    (s.init = true → exec (.setPlayMode mode) s = .next { s with evlog := s.evlog ++
      [.tx (frameTemplate s.cfg.variant entry.cmd entry.params)] })

/-- R127: pauseResume; PAUSE when PAUSED was 0, RESUME when it was 1, and PAUSED inverted; nothing in
Uninitialized, where PAUSED is not inverted either (decision D21). -/
def Obligations.PauseResumeTogglesAndWrites : Prop :=
  ∀ s : State,
    (s.init = false → exec .pauseResume s = .next s) ∧
    (s.init = true → s.paused = false → exec .pauseResume s = .next { s with paused := true, evlog := s.evlog ++
      [.tx (frameTemplate s.cfg.variant (opc s.cfg s.cfg.variant .pause) .none)] }) ∧
    (s.init = true → s.paused = true → exec .pauseResume s = .next { s with paused := false, evlog := s.evlog ++
      [.tx (frameTemplate s.cfg.variant (opc s.cfg s.cfg.variant .resume) .none)] })

/-- R128, R129, R130: stop, next and prev, in both states; each its own opcode, no parameter, and no state
written. -/
def Obligations.StopNextPrevWriteTheirOpcode : Prop :=
  ∀ (s : State) (i : Instr) (k : Key), (i, k) ∈ [(.stop, .stop), (.next, .next), (.prev, .prev)] →
    (s.init = false → exec i s = .next s) ∧
    (s.init = true → exec i s = .next { s with evlog := s.evlog ++
      [.tx (frameTemplate s.cfg.variant (opc s.cfg s.cfg.variant k) .none)] })

/-- R131: in Ready each of the ten appends exactly one `TX` element and no other event, and writes nothing else but
pauseResume's PAUSED; what it writes to the transport is the same from every Ready state of the same
configuration (and, for pauseResume, the same PAUSED), so it reads neither TCFG nor the past. That none delays is decision
D19. -/
def Obligations.PlaybackWritesExactlyOneFrame : Prop :=
  ∀ (i : Instr) (s : State), isPlayback i = true → s.init = true →
    ∃ f : List Byte, ∀ s' : State, s'.cfg = s.cfg → s'.init = true → (i = .pauseResume → s'.paused = s.paused) →
      exec i s' = .next { s' with
        evlog := s'.evlog ++ [.tx f],
        paused := if i = .pauseResume then !s'.paused else s'.paused }

/-- R80, R110 (b): after clamping, turning an argument into bytes loses nothing. -/
def Obligations.ClampedArgumentsFitTheirBytes : Prop :=
  ∀ (c : Cfg) (v : Arg),
    ((byte (clamp v.toInt 0 (volMax c))).toNat : Int) = clamp v.toInt 0 (volMax c) ∧
    ((byte (clamp v.toInt 1 99)).toNat : Int) = clamp v.toInt 1 99 ∧
    ((byte (clamp v.toInt 1 255)).toNat : Int) = clamp v.toInt 1 255 ∧
    (256 * (hi8 (clamp v.toInt 1 (idxMax c))).toNat + (lo8 (clamp v.toInt 1 (idxMax c))).toNat : Int) =
      clamp v.toInt 1 (idxMax c)

/-! ### The wire commands -/

/-- The 14 format C wire commands: in Ready, on an SMP3-FE strapped to C, each writes its frame; otherwise the
sequencer emits no such frame and nothing happens (R74, R120). That the row can be stepped at all is the
model's choice (log 3). -/
def Obligations.FormatCCommandsWriteTheirFrame : Prop :=
  ∀ (s : State) (x y : Byte) (i : Instr) (k : Key) (ps : Params),
    (i, k, ps) ∈ [
      (.cSelectDevice, .selectDevice, .one s.cfg.selParamC), (.cSetVolume x, .setVolume, .one x),
      (.cPlayIndex x y, .playIndex, .two x y), (.cPlayMp3Folder x y, .playMp3Folder, .two x y),
      (.cPlayFolderTrack x y, .playFolderTrack, .two x y), (.cStop, .stop, .none), (.cPause, .pause, .none),
      (.cResume, .resume, .none), (.cNext, .next, .none), (.cPrev, .prev, .none), (.cSetEq x, .setEq, .one x),
      (.cSetPlayMode x y, .setPlayMode, .two x y), (.cLoopFolder x y, .loopFolder, .two x y),
      (.cShuffleFolder x y, .shuffleFolder, .two x y)] →
    (s.init = true → s.cfg.variant = .C →
      exec i s = .next { s with evlog := s.evlog ++ [.tx (frameTemplate .C (opc s.cfg .C k) ps)] }) ∧
    (¬ (s.init = true ∧ s.cfg.variant = .C) → exec i s = .next s)

/-- The 14 format S wire commands, in the same way. -/
def Obligations.FormatSCommandsWriteTheirFrame : Prop :=
  ∀ (s : State) (x y : Byte) (zs : Params) (i : Instr) (k : Key) (ps : Params),
    (i, k, ps) ∈ [
      (.sSelectDevice, .selectDevice, .one s.cfg.selParamS), (.sSetVolume x, .setVolume, .one x),
      (.sPlayIndex x y, .playIndex, .two x y), (.sPlayMp3Folder x y, .playMp3Folder, .two x y),
      (.sPlayFolderTrack x y, .playFolderTrack, .two x y), (.sStop, .stop, .none), (.sPause, .pause, .none),
      (.sResume, .resume, .none), (.sNext, .next, .none), (.sPrev, .prev, .none), (.sSetEq x, .setEq, .one x),
      (.sSetPlayMode zs, .setPlayMode, zs), (.sLoopFolder zs, .loopFolder, zs),
      (.sShuffleFolder zs, .shuffleFolder, zs)] →
    (s.init = true → s.cfg.variant = .S →
      exec i s = .next { s with evlog := s.evlog ++ [.tx (frameTemplate .S (opc s.cfg .S k) ps)] }) ∧
    (¬ (s.init = true ∧ s.cfg.variant = .S) → exec i s = .next s)

/-- The column "emitted by" of R84: in Ready an operation hands over what the two wire commands of its key hand over
one after the other, of which the straps let exactly one act; pauseResume and selectDevice then do the rest of
their rule. Rests on the model's reading of the wire rows (log 3). -/
def Obligations.OperationsEmitTheirWireCommands : Prop :=
  ∀ (s t : State), s.init = true →
    (∀ i ic is, (i, ic, is) ∈ [
        (Instr.stop, Instr.cStop, Instr.sStop), (.next, .cNext, .sNext), (.prev, .cPrev, .sPrev)] →
      (exec i s = .next t ↔ ∃ u, exec ic s = .next u ∧ exec is u = .next t)) ∧
    (∀ (level : Arg) (n : Nat), NearestIn level.toInt 0 (volMax s.cfg) n →
      (exec (.setVolume level) s = .next t ↔
        ∃ u, exec (.cSetVolume (BitVec.ofNat 8 n)) s = .next u ∧
          exec (.sSetVolume (BitVec.ofNat 8 n)) u = .next t)) ∧
    (∀ (index : Arg) (n : Nat), NearestIn index.toInt 1 (idxMax s.cfg) n →
      (exec (.playByIndex index) s = .next t ↔
        ∃ u, exec (.cPlayIndex (BitVec.ofNat 8 (n / 256)) (BitVec.ofNat 8 n)) s = .next u ∧
          exec (.sPlayIndex (BitVec.ofNat 8 (n / 256)) (BitVec.ofNat 8 n)) u = .next t) ∧
      (exec (.playFromNamedFolder index) s = .next t ↔
        ∃ u, exec (.cPlayMp3Folder (BitVec.ofNat 8 (n / 256)) (BitVec.ofNat 8 n)) s = .next u ∧
          exec (.sPlayMp3Folder (BitVec.ofNat 8 (n / 256)) (BitVec.ofNat 8 n)) u = .next t)) ∧
    (∀ (folder track : Arg) (f r : Nat), NearestIn folder.toInt 1 99 f → NearestIn track.toInt 1 255 r →
      (exec (.playInFolder folder track) s = .next t ↔
        ∃ u, exec (.cPlayFolderTrack (BitVec.ofNat 8 f) (BitVec.ofNat 8 r)) s = .next u ∧
          exec (.sPlayFolderTrack (BitVec.ofNat 8 f) (BitVec.ofNat 8 r)) u = .next t)) ∧
    (∀ mode : Arg, exec (.setEqualizer mode) s = .next t ↔
      ∃ u, exec (.cSetEq (eqCode s.cfg mode)) s = .next u ∧ exec (.sSetEq (eqCode s.cfg mode)) u = .next t) ∧
    (∀ (mode : Arg) (ps : Params), pmEntry s.cfg s.cfg.variant mode =
        ⟨opc s.cfg s.cfg.variant .setPlayMode, ps⟩ →
      (exec (.setPlayMode mode) s = .next t ↔
        ∃ u, exec (.cSetPlayMode (dataHigh ps) (dataLow ps)) s = .next u ∧ exec (.sSetPlayMode ps) u = .next t)) ∧
    (∀ (mode : Arg) (ps : Params), pmEntry s.cfg s.cfg.variant mode =
        ⟨opc s.cfg s.cfg.variant .loopFolder, ps⟩ →
      (exec (.setPlayMode mode) s = .next t ↔
        ∃ u, exec (.cLoopFolder (dataHigh ps) (dataLow ps)) s = .next u ∧ exec (.sLoopFolder ps) u = .next t)) ∧
    (∀ (mode : Arg) (ps : Params), pmEntry s.cfg s.cfg.variant mode =
        ⟨opc s.cfg s.cfg.variant .shuffleFolder, ps⟩ →
      (exec (.setPlayMode mode) s = .next t ↔
        ∃ u, exec (.cShuffleFolder (dataHigh ps) (dataLow ps)) s = .next u ∧
          exec (.sShuffleFolder ps) u = .next t)) ∧
    (s.paused = false → (exec .pauseResume s = .next t ↔
      ∃ u w, exec .cPause s = .next u ∧ exec .sPause u = .next w ∧ t = { w with paused := true })) ∧
    (s.paused = true → (exec .pauseResume s = .next t ↔
      ∃ u w, exec .cResume s = .next u ∧ exec .sResume u = .next w ∧ t = { w with paused := false })) ∧
    (exec .selectDevice s = .next t ↔
      ∃ u w, exec .cSelectDevice s = .next u ∧ exec .sSelectDevice u = .next w ∧
        t = { w with evlog := w.evlog ++ [.delay (tSelMs s.cfg)] })

/-! ### The whole machine -/

/-- `Inv` holds after reset, for every configuration. -/
def Obligations.InvariantHoldsAtReset : Prop :=
  Inv State.reset ∧ ∀ c : Cfg, Inv (State.resetWith c)

/-- `Inv` is kept by every step, from every state that has it: R35 (b) and (c), R62, and that `EVLOG` holds nothing
but events this SMP3-FE can produce, every frame in the format of its variant. -/
def Obligations.StepKeepsTheInvariant : Prop :=
  ∀ s t : State, Inv s → step s = .next t → Inv t

/-- R35 (a), R30, R31: a step never takes INIT from 1 to 0, never changes `CFG`, and never takes an event back or changes
one. The same of the codec port's answers: that they are kept, in `replies`, is the model's choice (log 2), R107 saying
only that the response is the frame. -/
def Obligations.StepNeverTakesBack : Prop :=
  ∀ s t : State, step s = .next t →
    (s.init = true → t.init = true) ∧ t.cfg = s.cfg ∧ s.evlog <+: t.evlog ∧ s.replies <+: t.replies

/-- R160, R164, R107: whatever a host forms, in whatever state, no run of it faults or is refused; and every word
presented is consumed, one a step. -/
def Obligations.HostRunsNeverStop : Prop :=
  ∀ (k : Nat) (s : State), (∀ p ∈ s.pending, hostCanForm s.cfg p = true) →
    ∃ t, run k s = .next t ∧ t.pending = s.pending.drop k

/-- R55, R59: in Ready a run of requests writes one frame for each request whose selector is 0x02 to 0x0C, and no
frame for any other. -/
def Obligations.OneFrameForEachOperation : Prop :=
  ∀ (qs : List Request) (s : State), s.init = true →
    ∃ t, run qs.length (withRequests s qs) = .next t ∧ t.pending = [] ∧
      t.evlog.countP Event.isTx = s.evlog.countP Event.isTx + qs.countP writesFrame

/-- R120, R55: before the first init a run of requests writes no frame, asks for no delay, and leaves the state as
it was. -/
def Obligations.NothingHappensBeforeInit : Prop :=
  ∀ (qs : List Request) (s : State), s.init = false → (∀ q ∈ qs, opField q ≠ 0x01#8) →
    run qs.length (withRequests s qs) = .next (withRequests s [])

/-- R23, R127, R191: after a run of requests in Ready PAUSED is what it was, inverted once for each pauseResume among
them and by nothing else; a host can know it by counting. -/
def Obligations.PausedFollowsTheToggles : Prop :=
  ∀ (qs : List Request) (s : State), s.init = true →
    ∃ t, run qs.length (withRequests s qs) = .next t ∧
      t.paused = (s.paused ^^ decide (qs.countP togglesPaused % 2 = 1))

/-- R127 ("starting unpaused, `pauseResume()` then `pauseResume()` emits pause-opcode then resume-opcode, and leaves
the paused flag equal to its initial value"), with the frames. -/
def Obligations.TwoTogglesPauseThenResume : Prop :=
  ∀ s t u : State, s.init = true → s.paused = false →
    exec .pauseResume s = .next t → exec .pauseResume t = .next u →
    u = { s with evlog := s.evlog ++
      [.tx (frameTemplate s.cfg.variant (opc s.cfg s.cfg.variant .pause) .none),
       .tx (frameTemplate s.cfg.variant (opc s.cfg s.cfg.variant .resume) .none)] }

/-- R62: an init takes effect for everything after it until the next init, whatever came before: TCFG and the
configuration in force at the end of `EVLOG` are the ones it carried (no stale config). -/
def Obligations.LatestInitIsInForce : Prop :=
  ∀ (qs : List Request) (s : State) (tx rx : Pin) (baud : Baud), (∀ q ∈ qs, opField q ≠ 0x01#8) →
    ∃ t, run (qs.length + 1) (withRequests s (requestWord 0x01#8 baud (rx ++ tx) :: qs)) = .next t ∧
      t.init = true ∧ t.tcfg = ⟨tx, rx, baud⟩ ∧ latestConfig t.evlog = some ⟨tx, rx, baud⟩

/-- R34 (derived there), R24: what TCFG holds cannot be observed. Two runs from states that differ only in TCFG go the
same way and end with the same `CFG`, INIT, PAUSED, events, answers and requests left. So no run depends on
`TXPIN_RST`, `RXPIN_RST` or `BAUD_RST`. -/
def Obligations.TcfgIsUnobservable : Prop :=
  ∀ (k : Nat) (s t : State) (x : TransportConfig), run k s = .next t →
    ∃ y, run k { s with tcfg := x } = .next { t with tcfg := y }
end

