-- ==== Sys2Proof/Laws/Decode.lean ====
section
/-! SUPPORT. The fields of a request word, read from a word and from a word put together (R76). -/

namespace Sys2Proof

theorem opField_toNat (q : Request) : (opField q).toNat = q.toNat / 2 ^ 64 := by
  have := q.isLt
  simp [opField, BitVec.extractLsb'_toNat, Nat.shiftRight_eq_div_pow]
  omega

theorem aField_toNat (q : Request) : (aField q).toNat = q.toNat / 2 ^ 32 % 2 ^ 32 := by
  simp [aField, BitVec.extractLsb'_toNat, Nat.shiftRight_eq_div_pow]

theorem bField_toNat (q : Request) : (bField q).toNat = q.toNat % 2 ^ 32 := by
  simp [bField, BitVec.extractLsb'_toNat]

theorem requestWord_toNat (op : Byte) (a b : BitVec 32) :
    (requestWord op a b).toNat = op.toNat * 2 ^ 64 + a.toNat * 2 ^ 32 + b.toNat := by
  simp only [requestWord, BitVec.toNat_append]
  rw [← Nat.shiftLeft_add_eq_or_of_lt b.isLt, ← Nat.shiftLeft_add_eq_or_of_lt a.isLt]
  simp only [Nat.shiftLeft_eq]
  omega

@[simp] theorem opField_requestWord (op : Byte) (a b : BitVec 32) : opField (requestWord op a b) = op := by
  apply BitVec.eq_of_toNat_eq
  have := a.isLt; have := b.isLt; have := op.isLt
  rw [opField_toNat, requestWord_toNat]
  omega

@[simp] theorem aField_requestWord (op : Byte) (a b : BitVec 32) : aField (requestWord op a b) = a := by
  apply BitVec.eq_of_toNat_eq
  have := a.isLt; have := b.isLt; have := op.isLt
  rw [aField_toNat, requestWord_toNat]
  omega

@[simp] theorem bField_requestWord (op : Byte) (a b : BitVec 32) : bField (requestWord op a b) = b := by
  apply BitVec.eq_of_toNat_eq
  have := a.isLt; have := b.isLt; have := op.isLt
  rw [bField_toNat, requestWord_toNat]
  omega

end Sys2Proof
end

