-- ==== Sys2Proof/Laws/Frames.lean ====
section
/-! SUPPORT. The spec lemma of each codec function and byte primitive, in plain arithmetic. -/

namespace Sys2Proof.Machine

/-- `byte` of a natural number (R11). -/
theorem byte_natCast (n : Nat) : byte (n : Int) = BitVec.ofNat 8 n := by
  simp [byte]

/-- `hi8` of a natural number (R11). -/
theorem hi8_natCast (n : Nat) : hi8 (n : Int) = BitVec.ofNat 8 (n / 256) := by
  have h : (n : Int) / 256 = ((n / 256 : Nat) : Int) := by omega
  rw [hi8, h, byte_natCast]

/-- `lo8` of a natural number (R11). -/
theorem lo8_natCast (n : Nat) : lo8 (n : Int) = BitVec.ofNat 8 n := byte_natCast n

/-- The LEN byte of format S (R72). -/
theorem byte_two_add (n : Nat) : byte (2 + (n : Int)) = BitVec.ofNat 8 (2 + n) := by
  rw [← byte_natCast]; push_cast; rfl

/-- A clamp is the value nearest in its range (R12). -/
theorem clamp_of_nearest {x lo hi : Int} {n : Nat} (h : NearestIn x lo hi n) (hle : lo ≤ hi) :
    clamp x lo hi = n := by
  unfold clamp
  rcases h with h | h | h <;> split <;> (try split) <;> omega

/-- A clamp lies in its range (R12). -/
theorem clamp_mem (x : Int) {lo hi : Int} (hle : lo ≤ hi) : lo ≤ clamp x lo hi ∧ clamp x lo hi ≤ hi := by
  unfold clamp
  split <;> (try split) <;> omega

/-- The sum, whose modulus never acts (R100, R106). -/
theorem sum16_toNat (cmd dh dl : Byte) :
    (sum16 cmd dh dl).toNat = 0x0105 + cmd.toNat + dh.toNat + dl.toNat := by
  simp [sum16, sumFields, accumulate]
  omega

/-- The checksum in closed form (R106). -/
theorem ck16_toNat (cmd dh dl : Byte) :
    (ck16 cmd dh dl).toNat = 0xFEFA - (cmd.toNat + dh.toNat + dl.toNat) := by
  have h := sum16_toNat cmd dh dl
  rw [ck16, BitVec.toNat_sub]
  simp [h]
  omega

theorem ckHigh_eq (cmd dh dl : Byte) : ckHigh cmd dh dl = ckHi (cmd.toNat + dh.toNat + dl.toNat) := by
  apply BitVec.eq_of_toNat_eq
  simp [ckHigh, ckHi, ck16_toNat, Nat.shiftRight_eq_div_pow]

theorem ckLow_eq (cmd dh dl : Byte) : ckLow cmd dh dl = ckLo (cmd.toNat + dh.toNat + dl.toNat) := by
  apply BitVec.eq_of_toNat_eq
  simp [ckLow, ckLo, ck16_toNat]

/-- The frame EMIT builds is the frame the rules list (R71, R72, R81, R105). -/
theorem frameOf_eq_template (v : Variant) (o : Byte) (ps : Params) : frameOf v o ps = frameTemplate v o ps := by
  cases v <;> cases ps <;>
    simp [frameOf, frameTemplate, buildC, ckHigh_eq, ckLow_eq, dataHigh, dataLow, buildS, paramList, byte]

end Sys2Proof.Machine
end

