-- ==== Sys2Proof/Laws/State.lean ====
section
/-! SUPPORT. One lemma for each field and each update of the state, so that no proof unfolds a record update. -/

namespace Sys2Proof.Machine

@[simp] theorem setInit_cfg (s : State) : (setInit s).cfg = s.cfg := rfl
@[simp] theorem setInit_init (s : State) : (setInit s).init = true := rfl
@[simp] theorem setInit_paused (s : State) : (setInit s).paused = s.paused := rfl
@[simp] theorem setInit_tcfg (s : State) : (setInit s).tcfg = s.tcfg := rfl
@[simp] theorem setInit_evlog (s : State) : (setInit s).evlog = s.evlog := rfl
@[simp] theorem setInit_replies (s : State) : (setInit s).replies = s.replies := rfl
@[simp] theorem setInit_pending (s : State) : (setInit s).pending = s.pending := rfl

@[simp] theorem setPaused_cfg (b : Bool) (s : State) : (setPaused b s).cfg = s.cfg := rfl
@[simp] theorem setPaused_init (b : Bool) (s : State) : (setPaused b s).init = s.init := rfl
@[simp] theorem setPaused_paused (b : Bool) (s : State) : (setPaused b s).paused = b := rfl
@[simp] theorem setPaused_tcfg (b : Bool) (s : State) : (setPaused b s).tcfg = s.tcfg := rfl
@[simp] theorem setPaused_evlog (b : Bool) (s : State) : (setPaused b s).evlog = s.evlog := rfl
@[simp] theorem setPaused_replies (b : Bool) (s : State) : (setPaused b s).replies = s.replies := rfl
@[simp] theorem setPaused_pending (b : Bool) (s : State) : (setPaused b s).pending = s.pending := rfl

@[simp] theorem setTcfg_cfg (tx rx : Pin) (baud : Baud) (s : State) : (setTcfg tx rx baud s).cfg = s.cfg := rfl
@[simp] theorem setTcfg_init (tx rx : Pin) (baud : Baud) (s : State) : (setTcfg tx rx baud s).init = s.init := rfl
@[simp] theorem setTcfg_paused (tx rx : Pin) (baud : Baud) (s : State) : (setTcfg tx rx baud s).paused = s.paused := rfl
@[simp] theorem setTcfg_tcfg (tx rx : Pin) (baud : Baud) (s : State) : (setTcfg tx rx baud s).tcfg = ⟨tx, rx, baud⟩ := rfl
@[simp] theorem setTcfg_evlog (tx rx : Pin) (baud : Baud) (s : State) : (setTcfg tx rx baud s).evlog = s.evlog := rfl
@[simp] theorem setTcfg_replies (tx rx : Pin) (baud : Baud) (s : State) : (setTcfg tx rx baud s).replies = s.replies := rfl
@[simp] theorem setTcfg_pending (tx rx : Pin) (baud : Baud) (s : State) : (setTcfg tx rx baud s).pending = s.pending := rfl

@[simp] theorem logEvent_cfg (e : Event) (s : State) : (logEvent e s).cfg = s.cfg := rfl
@[simp] theorem logEvent_init (e : Event) (s : State) : (logEvent e s).init = s.init := rfl
@[simp] theorem logEvent_paused (e : Event) (s : State) : (logEvent e s).paused = s.paused := rfl
@[simp] theorem logEvent_tcfg (e : Event) (s : State) : (logEvent e s).tcfg = s.tcfg := rfl
@[simp] theorem logEvent_evlog (e : Event) (s : State) : (logEvent e s).evlog = s.evlog ++ [e] := rfl
@[simp] theorem logEvent_replies (e : Event) (s : State) : (logEvent e s).replies = s.replies := rfl
@[simp] theorem logEvent_pending (e : Event) (s : State) : (logEvent e s).pending = s.pending := rfl

@[simp] theorem txConfig_cfg (tx rx : Pin) (baud : Baud) (s : State) : (txConfig tx rx baud s).cfg = s.cfg := rfl
@[simp] theorem txConfig_init (tx rx : Pin) (baud : Baud) (s : State) : (txConfig tx rx baud s).init = s.init := rfl
@[simp] theorem txConfig_paused (tx rx : Pin) (baud : Baud) (s : State) : (txConfig tx rx baud s).paused = s.paused := rfl
@[simp] theorem txConfig_tcfg (tx rx : Pin) (baud : Baud) (s : State) : (txConfig tx rx baud s).tcfg = s.tcfg := rfl
@[simp] theorem txConfig_evlog (tx rx : Pin) (baud : Baud) (s : State) : (txConfig tx rx baud s).evlog = s.evlog ++ [.config tx rx baud] := rfl
@[simp] theorem txConfig_replies (tx rx : Pin) (baud : Baud) (s : State) : (txConfig tx rx baud s).replies = s.replies := rfl
@[simp] theorem txConfig_pending (tx rx : Pin) (baud : Baud) (s : State) : (txConfig tx rx baud s).pending = s.pending := rfl

@[simp] theorem txWrite_cfg (f : List Byte) (s : State) : (txWrite f s).cfg = s.cfg := rfl
@[simp] theorem txWrite_init (f : List Byte) (s : State) : (txWrite f s).init = s.init := rfl
@[simp] theorem txWrite_paused (f : List Byte) (s : State) : (txWrite f s).paused = s.paused := rfl
@[simp] theorem txWrite_tcfg (f : List Byte) (s : State) : (txWrite f s).tcfg = s.tcfg := rfl
@[simp] theorem txWrite_evlog (f : List Byte) (s : State) : (txWrite f s).evlog = s.evlog ++ [.tx f] := rfl
@[simp] theorem txWrite_replies (f : List Byte) (s : State) : (txWrite f s).replies = s.replies := rfl
@[simp] theorem txWrite_pending (f : List Byte) (s : State) : (txWrite f s).pending = s.pending := rfl

@[simp] theorem delay_cfg (ms : Nat) (s : State) : (delay ms s).cfg = s.cfg := rfl
@[simp] theorem delay_init (ms : Nat) (s : State) : (delay ms s).init = s.init := rfl
@[simp] theorem delay_paused (ms : Nat) (s : State) : (delay ms s).paused = s.paused := rfl
@[simp] theorem delay_tcfg (ms : Nat) (s : State) : (delay ms s).tcfg = s.tcfg := rfl
@[simp] theorem delay_evlog (ms : Nat) (s : State) : (delay ms s).evlog = s.evlog ++ [.delay ms] := rfl
@[simp] theorem delay_replies (ms : Nat) (s : State) : (delay ms s).replies = s.replies := rfl
@[simp] theorem delay_pending (ms : Nat) (s : State) : (delay ms s).pending = s.pending := rfl

@[simp] theorem emit_cfg (cmd : Byte) (ps : Params) (s : State) : (emit cmd ps s).cfg = s.cfg := rfl
@[simp] theorem emit_init (cmd : Byte) (ps : Params) (s : State) : (emit cmd ps s).init = s.init := rfl
@[simp] theorem emit_paused (cmd : Byte) (ps : Params) (s : State) : (emit cmd ps s).paused = s.paused := rfl
@[simp] theorem emit_tcfg (cmd : Byte) (ps : Params) (s : State) : (emit cmd ps s).tcfg = s.tcfg := rfl
@[simp] theorem emit_evlog (cmd : Byte) (ps : Params) (s : State) : (emit cmd ps s).evlog = s.evlog ++ [.tx (frameOf s.cfg.variant cmd ps)] := rfl
@[simp] theorem emit_replies (cmd : Byte) (ps : Params) (s : State) : (emit cmd ps s).replies = s.replies := rfl
@[simp] theorem emit_pending (cmd : Byte) (ps : Params) (s : State) : (emit cmd ps s).pending = s.pending := rfl

@[simp] theorem emitKey_cfg (k : Key) (ps : Params) (s : State) : (emitKey k ps s).cfg = s.cfg := rfl
@[simp] theorem emitKey_init (k : Key) (ps : Params) (s : State) : (emitKey k ps s).init = s.init := rfl
@[simp] theorem emitKey_paused (k : Key) (ps : Params) (s : State) : (emitKey k ps s).paused = s.paused := rfl
@[simp] theorem emitKey_tcfg (k : Key) (ps : Params) (s : State) : (emitKey k ps s).tcfg = s.tcfg := rfl
@[simp] theorem emitKey_evlog (k : Key) (ps : Params) (s : State) : (emitKey k ps s).evlog = s.evlog ++ [.tx (frameOf s.cfg.variant (opc s.cfg s.cfg.variant k) ps)] := rfl
@[simp] theorem emitKey_replies (k : Key) (ps : Params) (s : State) : (emitKey k ps s).replies = s.replies := rfl
@[simp] theorem emitKey_pending (k : Key) (ps : Params) (s : State) : (emitKey k ps s).pending = s.pending := rfl

@[simp] theorem reply_cfg (f : List Byte) (s : State) : (reply f s).cfg = s.cfg := rfl
@[simp] theorem reply_init (f : List Byte) (s : State) : (reply f s).init = s.init := rfl
@[simp] theorem reply_paused (f : List Byte) (s : State) : (reply f s).paused = s.paused := rfl
@[simp] theorem reply_tcfg (f : List Byte) (s : State) : (reply f s).tcfg = s.tcfg := rfl
@[simp] theorem reply_evlog (f : List Byte) (s : State) : (reply f s).evlog = s.evlog := rfl
@[simp] theorem reply_replies (f : List Byte) (s : State) : (reply f s).replies = s.replies ++ [f] := rfl
@[simp] theorem reply_pending (f : List Byte) (s : State) : (reply f s).pending = s.pending := rfl

@[simp] theorem resetWith_cfg (c : Cfg) : (State.resetWith c).cfg = c := rfl
@[simp] theorem resetWith_init (c : Cfg) : (State.resetWith c).init = false := rfl
@[simp] theorem resetWith_paused (c : Cfg) : (State.resetWith c).paused = false := rfl
@[simp] theorem resetWith_tcfg (c : Cfg) :
    (State.resetWith c).tcfg = ⟨c.txpinRst, c.rxpinRst, c.baudRst⟩ := rfl
@[simp] theorem resetWith_evlog (c : Cfg) : (State.resetWith c).evlog = [] := rfl
@[simp] theorem resetWith_replies (c : Cfg) : (State.resetWith c).replies = [] := rfl
@[simp] theorem resetWith_pending (c : Cfg) : (State.resetWith c).pending = [] := rfl

end Sys2Proof.Machine
end

