-- ==== Sys2Proof/Laws/Ops.lean ====
section
/-! SUPPORT. What each shared operation can do, said once, and what `exec` can answer, said once. -/

namespace Sys2Proof.Machine

/-- In Ready the guard lets the operation run. -/
@[simp] theorem guarded_of_ready {s : State} (h : s.init = true) (op : State → State) :
    guarded s op = op s := by
  simp [guarded, h]

/-- In Uninitialized it does not. -/
@[simp] theorem guarded_of_uninit {s : State} (h : s.init = false) (op : State → State) :
    guarded s op = s := by
  simp [guarded, h]

/-- A wire command writes its frame where the sequencer can emit it, and otherwise does nothing. -/
theorem wireCommand_cases (v : Variant) (k : Key) (ps : Params) (s : State) :
    (s.init = true ∧ s.cfg.variant = v ∧
      wireCommand v k ps s = txWrite (frameOf s.cfg.variant (opc s.cfg v k) ps) s) ∨
    (¬ (s.init = true ∧ s.cfg.variant = v) ∧ wireCommand v k ps s = s) := by
  by_cases h : s.init = true ∧ s.cfg.variant = v
  · obtain ⟨hi, rfl⟩ := h
    exact .inl ⟨hi, rfl, by simp [wireCommand, hi]⟩
  · exact .inr ⟨h, by simpa [wireCommand] using fun hi hv => absurd ⟨hi, hv⟩ h⟩

/-- `listFits` is the bound of R108. -/
theorem listFits_iff (ps : List Byte) (n : Nat) : listFits ps n = true ↔ ps.length ≤ n := by
  induction ps generalizing n with
  | nil => simp [listFits]
  | cons p ps ih => cases n <;> simp [listFits, ih]

/-- What one instruction can do to the state, every case of it. -/
inductive Effect (i : Instr) (s : State) : State → Prop where
  /-- nothing: the guard, a reserved selector, a wire command that cannot be emitted -/
  | none : Effect i s s
  /-- the answer of the codec port -/
  | reply (f : List Byte) : Effect i s (reply f s)
  /-- init -/
  | init (tx rx : Pin) (baud : Baud) (hi : i = .init tx rx baud) :
      Effect i s (delay (tInitMs s.cfg) (txConfig tx rx baud (setInit (setTcfg tx rx baud s))))
  /-- one frame, in Ready -/
  | write (hr : s.init = true) (cmd : Byte) (ps : Params) : Effect i s (emit cmd ps s)
  /-- one frame and the settling delay, in Ready -/
  | select (hr : s.init = true) (hi : i = .selectDevice) (cmd : Byte) (ps : Params) :
      Effect i s (delay (tSelMs s.cfg) (emit cmd ps s))
  /-- one frame and the toggle, in Ready -/
  | toggle (hr : s.init = true) (hi : i = .pauseResume) (cmd : Byte) (ps : Params) :
      Effect i s (setPaused (!s.paused) (emit cmd ps s))

theorem effect_guarded {i : Instr} {s : State} {op : State → State}
    (h : s.init = true → Effect i s (op s)) : Effect i s (guarded s op) := by
  cases hi : s.init
  · rw [guarded_of_uninit hi]; exact .none
  · rw [guarded_of_ready hi]; exact h hi

theorem effect_wireCommand (i : Instr) (v : Variant) (k : Key) (ps : Params) (s : State) :
    Effect i s (wireCommand v k ps s) := by
  obtain ⟨hr, -, h⟩ | ⟨-, h⟩ := wireCommand_cases v k ps s
  · rw [h]; exact .write hr _ ps
  · rw [h]; exact .none

/-- `exec` answers a next state by one of the six effects. -/
theorem exec_effect {i : Instr} {s t : State} (h : exec i s = .next t) : Effect i s t := by
  cases i <;> simp only [exec] at h
  case init tx rx baud => cases h; exact .init tx rx baud rfl
  case selectDevice => cases h; exact effect_guarded fun hr => .select hr rfl _ _
  case setVolume => cases h; exact effect_guarded fun hr => .write hr _ _
  case playByIndex => cases h; exact effect_guarded fun hr => .write hr _ _
  case playInFolder => cases h; exact effect_guarded fun hr => .write hr _ _
  case playFromNamedFolder => cases h; exact effect_guarded fun hr => .write hr _ _
  case setEqualizer => cases h; exact effect_guarded fun hr => .write hr _ _
  case setPlayMode => cases h; exact effect_guarded fun hr => .write hr _ _
  case pauseResume =>
    cases h
    refine effect_guarded fun hr => ?_
    cases hp : s.paused
    · have := Effect.toggle (i := .pauseResume) hr rfl (opc s.cfg s.cfg.variant .pause) .none
      simpa [hp, emitKey] using this
    · have := Effect.toggle (i := .pauseResume) hr rfl (opc s.cfg s.cfg.variant .resume) .none
      simpa [hp, emitKey] using this
  case stop => cases h; exact effect_guarded fun hr => .write hr _ _
  case next => cases h; exact effect_guarded fun hr => .write hr _ _
  case prev => cases h; exact effect_guarded fun hr => .write hr _ _
  case reserved => cases h; exact .none
  case buildC => cases h; exact .reply _
  case buildS cmd ps =>
    unfold execBuildS at h
    split at h
    · cases h; exact .reply _
    · cases h
  all_goals
    cases h
    exact effect_wireCommand _ _ _ _ _

end Sys2Proof.Machine
end

