-- ==== Sys2Proof/Laws/PerInstr.lean ====
section
/-! SUPPORT. What is said instruction by instruction. `OnItsPort`: the encoder puts an instruction on the port
its row of spec/opcode_table.json names (Q72 the command port, a codec function the codec port, a wire
command the sequencer's side of the TX port). -/

namespace Sys2Proof.Laws.OnItsPort

/-- The word of `i` stands on the port of `i`, whatever the configuration. -/
def Statement (i : Instr) : Prop := ∀ c : Cfg, (encode c i).port = i.port

theorem init : ∀ tx rx baud, Statement (.init tx rx baud) := fun _ _ _ _ => rfl
theorem selectDevice : Statement .selectDevice := fun _ => rfl
theorem setVolume : ∀ level, Statement (.setVolume level) := fun _ _ => rfl
theorem playByIndex : ∀ index, Statement (.playByIndex index) := fun _ _ => rfl
theorem playInFolder : ∀ folder track, Statement (.playInFolder folder track) := fun _ _ _ => rfl
theorem playFromNamedFolder : ∀ index, Statement (.playFromNamedFolder index) := fun _ _ => rfl
theorem setEqualizer : ∀ mode, Statement (.setEqualizer mode) := fun _ _ => rfl
theorem setPlayMode : ∀ mode, Statement (.setPlayMode mode) := fun _ _ => rfl
theorem pauseResume : Statement .pauseResume := fun _ => rfl
theorem stop : Statement .stop := fun _ => rfl
theorem next : Statement .next := fun _ => rfl
theorem prev : Statement .prev := fun _ => rfl
theorem reserved : ∀ op, Statement (.reserved op) := fun _ _ => rfl
theorem buildC : ∀ cmd dh dl, Statement (.buildC cmd dh dl) := fun _ _ _ _ => rfl
theorem buildS : ∀ cmd params, Statement (.buildS cmd params) := fun _ _ _ => rfl
theorem cSelectDevice : Statement .cSelectDevice := fun _ => rfl
theorem cSetVolume : ∀ level, Statement (.cSetVolume level) := fun _ _ => rfl
theorem cPlayIndex : ∀ hi lo, Statement (.cPlayIndex hi lo) := fun _ _ _ => rfl
theorem cPlayMp3Folder : ∀ hi lo, Statement (.cPlayMp3Folder hi lo) := fun _ _ _ => rfl
theorem cPlayFolderTrack : ∀ folder track, Statement (.cPlayFolderTrack folder track) := fun _ _ _ => rfl
theorem cStop : Statement .cStop := fun _ => rfl
theorem cPause : Statement .cPause := fun _ => rfl
theorem cResume : Statement .cResume := fun _ => rfl
theorem cNext : Statement .cNext := fun _ => rfl
theorem cPrev : Statement .cPrev := fun _ => rfl
theorem cSetEq : ∀ code, Statement (.cSetEq code) := fun _ _ => rfl
theorem cSetPlayMode : ∀ dh dl, Statement (.cSetPlayMode dh dl) := fun _ _ _ => rfl
theorem cLoopFolder : ∀ dh dl, Statement (.cLoopFolder dh dl) := fun _ _ _ => rfl
theorem cShuffleFolder : ∀ dh dl, Statement (.cShuffleFolder dh dl) := fun _ _ _ => rfl
theorem sSelectDevice : Statement .sSelectDevice := fun _ => rfl
theorem sSetVolume : ∀ level, Statement (.sSetVolume level) := fun _ _ => rfl
theorem sPlayIndex : ∀ hi lo, Statement (.sPlayIndex hi lo) := fun _ _ _ => rfl
theorem sPlayMp3Folder : ∀ hi lo, Statement (.sPlayMp3Folder hi lo) := fun _ _ _ => rfl
theorem sPlayFolderTrack : ∀ folder track, Statement (.sPlayFolderTrack folder track) := fun _ _ _ => rfl
theorem sStop : Statement .sStop := fun _ => rfl
theorem sPause : Statement .sPause := fun _ => rfl
theorem sResume : Statement .sResume := fun _ => rfl
theorem sNext : Statement .sNext := fun _ => rfl
theorem sPrev : Statement .sPrev := fun _ => rfl
theorem sSetEq : ∀ code, Statement (.sSetEq code) := fun _ _ => rfl
theorem sSetPlayMode : ∀ ps, Statement (.sSetPlayMode ps) := fun _ _ => rfl
theorem sLoopFolder : ∀ ps, Statement (.sLoopFolder ps) := fun _ _ => rfl
theorem sShuffleFolder : ∀ ps, Statement (.sShuffleFolder ps) := fun _ _ => rfl

end Sys2Proof.Laws.OnItsPort
end

