-- ==== Sys2Proof/Laws/Step.lean ====
section
/-! SUPPORT. What a step can do, and the induction over a run, each said once. -/

namespace Sys2Proof.Machine

/-- A step waits, or carries out the instruction at the head. -/
theorem step_cases {s t : State} (h : step s = .next t) :
    (s.pending = [] ∧ t = s) ∨
    ∃ p rest i, s.pending = p :: rest ∧ decode s.cfg p = .ok i ∧
      exec i { s with pending := rest } = .next t := by
  unfold step at h
  split at h
  · rename_i hp; cases h; exact .inl ⟨hp, rfl⟩
  · rename_i p rest hp
    split at h
    · rename_i i hd; exact .inr ⟨p, rest, i, hp, hd, h⟩
    · cases h

/-- A run of `k + 1` steps is a step and a run of `k`. -/
theorem run_succ (k : Nat) (s t : State) :
    run (k + 1) s = .next t ↔ ∃ s', step s = .next s' ∧ run k s' = .next t := by
  cases h : step s <;> simp [run, h]

/-- What every step keeps, every run keeps. -/
theorem run_keeps {P : State → Prop} (hstep : ∀ s t, P s → step s = .next t → P t) :
    ∀ (k : Nat) (s t : State), P s → run k s = .next t → P t
  | 0, s, t, hs, h => by cases h; exact hs
  | k + 1, s, t, hs, h => by
    obtain ⟨s', hs', hr⟩ := (run_succ k s t).mp h
    exact run_keeps hstep k s' t (hstep s s' hs hs') hr

end Sys2Proof.Machine
end

