-- ==== Sys2Proof/Tests/Slice0.lean ====
section
/-! SUPPORT. Tests. Every expected value is written out from spec/95_test_vectors.md (the section is named at each
group) or from the encodings of spec/30_encoding.md and spec/opcode_table.json, never from the model. Profile T is
section 3.0 of 95_test_vectors.md: arbitrary opcode bytes, no device's. Last come the witnesses: for each statement
with hypotheses, values that meet them. -/

namespace Sys2Proof.Tests

open Sys2Proof.Machine

/-! ### Profile T and small states -/

/-- Profile T (95_test_vectors.md 3.0). -/
def profileT (v : Variant) (vm : VolMax) (im : IdxMax) : Cfg where
  variant := v
  volMax := vm
  idxMax := im
  opcC := { selectDevice := 0x49#8, setVolume := 0x46#8, playIndex := 0x43#8, playMp3Folder := 0x52#8, stop := 0x56#8, pause := 0x4E#8, resume := 0x4D#8, next := 0x41#8, prev := 0x42#8, setEq := 0x47#8, setPlayMode := 0x48#8, loopFolder := 0x57#8, shuffleFolder := 0x58#8 }
  opcS := { selectDevice := 0xB9#8, setVolume := 0xB6#8, playMp3Folder := 0xB2#8, playFolderTrack := 0xBF#8, stop := 0xC6#8, pause := 0xBE#8, resume := 0xBD#8, next := 0xB1#8, prev := 0xB3#8, setEq := 0xB7#8, setPlayMode := 0xB8#8, loopFolder := 0xC7#8, shuffleFolder := 0xC8#8 }
  selParamC := 0x22#8
  selParamS := 0x33#8
  eqCode := ⟨0#8, 1#8, 2#8, 3#8, 4#8, 5#8⟩
  pmC := ⟨⟨0x48#8, .one 0#8⟩, ⟨0x48#8, .one 1#8⟩, ⟨0x57#8, .two 0#8 1#8⟩, ⟨0x58#8, .none⟩⟩
  pmS := ⟨⟨0xB8#8, .one 0#8⟩, ⟨0xB8#8, .one 1#8⟩, ⟨0xC7#8, .two 0#8 1#8⟩, ⟨0xC8#8, .none⟩⟩
  tInitOver100 := 50
  tSelMs := 200
  nparamMax := 6
  txpinRst := 0#16
  rxpinRst := 0#16
  baudRst := 0#32

/-- The four configurations of 95_test_vectors.md 3.0. -/
def cfgCa : Cfg := profileT .C .v30 .i2999
def cfgCb : Cfg := profileT .C .v31 .i65535
def cfgSa : Cfg := profileT .S .v30 .i3000
def cfgSb : Cfg := profileT .S .v31 .i65535

/-- A Ready state of configuration `c` with an empty log, so that a test sees only what one step appends. -/
def ready (c : Cfg) (paused : Bool) : State := { State.resetWith c with init := true, paused := paused }

/-- A state that Inv holds of: after `init(1, 2, 9600)`. -/
def booted (c : Cfg) : State :=
  { State.resetWith c with init := true, tcfg := ⟨1#16, 2#16, 9600#32⟩, evlog := [.config 1#16 2#16 9600#32, .delay (tInitMs c)] }

/-- The state an instruction leaves, if it leaves one. -/
def after : Host.Outcome State Fault Refusal → Option State
  | .next s => some s
  | .fault _ => none
  | .refused _ => none

/-- The refusal, if there is one. -/
def refusal : Host.Outcome State Fault Refusal → Option Refusal
  | .next _ => none
  | .fault _ => none
  | .refused r => some r

/-- The events of one instruction from a state with an empty log. -/
def events (i : Instr) (s : State) : Option (List Event) := (after (exec i s)).map State.evlog

/-! ### Well-formedness: one ill-formed term for each check -/

theorem test_wellFormed_refuses_a_named_selector : wellFormed (.reserved 0x03#8) = false := by decide
theorem test_wellFormed_refuses_the_last_named_selector : wellFormed (.reserved 0x0C#8) = false := by decide
theorem test_wellFormed_takes_reserved_selectors : wellFormed (.reserved 0x00#8) = true ∧ wellFormed (.reserved 0x0D#8) = true ∧ wellFormed (.reserved 0xFF#8) = true := by decide
theorem test_wellFormed_refuses_254_parameters : wellFormed (.buildS 0x55#8 (List.replicate 254 0#8)) = false := by
  rw [wellFormed, paramsInRange, List.length_replicate]; decide
theorem test_wellFormed_takes_253_parameters : wellFormed (.buildS 0x55#8 (List.replicate 253 0#8)) = true := by
  rw [wellFormed, paramsInRange, List.length_replicate]; decide

/-! ### Decoding: a word of every constructor (30_encoding.md R76, R77; 95_test_vectors.md 3 and 4) -/

theorem test_decode_init : decodeTableWord 72 0x010000258000020001 = some (.init 1#16 2#16 9600#32) := by decide
theorem test_decode_selectDevice : decodeTableWord 72 0x020000000000000000 = some (.selectDevice) := by decide
theorem test_decode_setVolume : decodeTableWord 72 0x03FFFFFFFB00000000 = some (.setVolume (BitVec.ofInt 32 (-5))) := by decide
theorem test_decode_playByIndex : decodeTableWord 72 0x040000012C00000000 = some (.playByIndex 300#32) := by decide
theorem test_decode_playInFolder : decodeTableWord 72 0x05FFFFFFF90000007E = some (.playInFolder (BitVec.ofInt 32 (-7)) 126#32) := by decide
theorem test_decode_playFromNamedFolder : decodeTableWord 72 0x060000138800000000 = some (.playFromNamedFolder 5000#32) := by decide
theorem test_decode_setEqualizer : decodeTableWord 72 0x070000000200000000 = some (.setEqualizer 2#32) := by decide
theorem test_decode_setPlayMode : decodeTableWord 72 0x08FFFFFFFC00000000 = some (.setPlayMode (BitVec.ofInt 32 (-4))) := by decide
theorem test_decode_pauseResume : decodeTableWord 72 0x090000000000000000 = some (.pauseResume) := by decide
theorem test_decode_stop : decodeTableWord 72 0x0ADEADBEEF12345678 = some (.stop) := by decide
theorem test_decode_next : decodeTableWord 72 0x0B0000000000000000 = some (.next) := by decide
theorem test_decode_prev : decodeTableWord 72 0x0C0000000000000000 = some (.prev) := by decide
theorem test_decode_reserved : decodeTableWord 72 0x00123456789ABCDEF0 = some (.reserved 0x00#8) := by decide
theorem test_decode_first_reserved_after_prev : decodeTableWord 72 0x0D0000000000000000 = some (.reserved 0x0D#8) := by decide

/-! Codec functions: the rows' patterns with the letters filled in (95_test_vectors.md 2). -/

theorem test_decode_buildC : decodeTableWord 80 0x7EFF06FB000000FDFFEF = some (.buildC 0xFB#8 0x00#8 0x00#8) := by decide
theorem test_decode_buildC_wrong_checksum : decodeTableWord 80 0x7EFF060F00030AFEE2EF = none := by decide
theorem test_decode_buildS : decodeTableWord 80 0x7E0855010203040506_7E = some (.buildS 0x55#8 [0x01#8, 0x02#8, 0x03#8, 0x04#8, 0x05#8, 0x06#8]) := by decide
theorem test_decode_buildS_marker_parameter : decodeTableWord 40 0x7E03A07E7E = some (.buildS 0xA0#8 [0x7E#8]) := by decide
theorem test_decode_buildS_wrong_length : decodeTableWord 40 0x7E02A07E7E = none := by decide

/-! Wire commands: the frames of 95_test_vectors.md 3.1 under profile T. -/

theorem test_decode_cSelectDevice : decode cfgCb (.wire [0x7E#8, 0xFF#8, 0x06#8, 0x49#8, 0x00#8, 0x00#8, 0x22#8, 0xFE#8, 0x8F#8, 0xEF#8]) = .ok (.cSelectDevice) := by decide
theorem test_decode_cSetVolume : decode cfgCb (.wire [0x7E#8, 0xFF#8, 0x06#8, 0x46#8, 0x00#8, 0x00#8, 0x1E#8, 0xFE#8, 0x96#8, 0xEF#8]) = .ok (.cSetVolume 0x1E#8) := by decide
theorem test_decode_cPlayIndex : decode cfgCb (.wire [0x7E#8, 0xFF#8, 0x06#8, 0x43#8, 0x00#8, 0x01#8, 0x2C#8, 0xFE#8, 0x8A#8, 0xEF#8]) = .ok (.cPlayIndex 0x01#8 0x2C#8) := by decide
theorem test_decode_cPlayMp3Folder : decode cfgCb (.wire [0x7E#8, 0xFF#8, 0x06#8, 0x52#8, 0x00#8, 0x00#8, 0x07#8, 0xFE#8, 0xA1#8, 0xEF#8]) = .ok (.cPlayMp3Folder 0x00#8 0x07#8) := by decide
theorem test_decode_cPlayFolderTrack : decode cfgCb (.wire [0x7E#8, 0xFF#8, 0x06#8, 0x0F#8, 0x00#8, 0x03#8, 0x0A#8, 0xFE#8, 0xDE#8, 0xEF#8]) = .ok (.cPlayFolderTrack 0x03#8 0x0A#8) := by decide
theorem test_decode_cStop : decode cfgCb (.wire [0x7E#8, 0xFF#8, 0x06#8, 0x56#8, 0x00#8, 0x00#8, 0x00#8, 0xFE#8, 0xA4#8, 0xEF#8]) = .ok (.cStop) := by decide
theorem test_decode_cPause : decode cfgCb (.wire [0x7E#8, 0xFF#8, 0x06#8, 0x4E#8, 0x00#8, 0x00#8, 0x00#8, 0xFE#8, 0xAC#8, 0xEF#8]) = .ok (.cPause) := by decide
theorem test_decode_cResume : decode cfgCb (.wire [0x7E#8, 0xFF#8, 0x06#8, 0x4D#8, 0x00#8, 0x00#8, 0x00#8, 0xFE#8, 0xAD#8, 0xEF#8]) = .ok (.cResume) := by decide
theorem test_decode_cNext : decode cfgCb (.wire [0x7E#8, 0xFF#8, 0x06#8, 0x41#8, 0x00#8, 0x00#8, 0x00#8, 0xFE#8, 0xB9#8, 0xEF#8]) = .ok (.cNext) := by decide
theorem test_decode_cPrev : decode cfgCb (.wire [0x7E#8, 0xFF#8, 0x06#8, 0x42#8, 0x00#8, 0x00#8, 0x00#8, 0xFE#8, 0xB8#8, 0xEF#8]) = .ok (.cPrev) := by decide
theorem test_decode_cSetEq : decode cfgCb (.wire [0x7E#8, 0xFF#8, 0x06#8, 0x47#8, 0x00#8, 0x00#8, 0x02#8, 0xFE#8, 0xB1#8, 0xEF#8]) = .ok (.cSetEq 0x02#8) := by decide
theorem test_decode_cSetPlayMode : decode cfgCb (.wire [0x7E#8, 0xFF#8, 0x06#8, 0x48#8, 0x00#8, 0x00#8, 0x01#8, 0xFE#8, 0xB1#8, 0xEF#8]) = .ok (.cSetPlayMode 0x00#8 0x01#8) := by decide
theorem test_decode_cLoopFolder : decode cfgCb (.wire [0x7E#8, 0xFF#8, 0x06#8, 0x57#8, 0x00#8, 0x00#8, 0x01#8, 0xFE#8, 0xA2#8, 0xEF#8]) = .ok (.cLoopFolder 0x00#8 0x01#8) := by decide
theorem test_decode_cShuffleFolder : decode cfgCb (.wire [0x7E#8, 0xFF#8, 0x06#8, 0x58#8, 0x00#8, 0x00#8, 0x00#8, 0xFE#8, 0xA2#8, 0xEF#8]) = .ok (.cShuffleFolder 0x00#8 0x00#8) := by decide
theorem test_decode_sSelectDevice : decode cfgSb (.wire [0x7E#8, 0x03#8, 0xB9#8, 0x33#8, 0x7E#8]) = .ok (.sSelectDevice) := by decide
theorem test_decode_sSetVolume : decode cfgSb (.wire [0x7E#8, 0x03#8, 0xB6#8, 0x1F#8, 0x7E#8]) = .ok (.sSetVolume 0x1F#8) := by decide
theorem test_decode_sPlayIndex : decode cfgSb (.wire [0x7E#8, 0x04#8, 0xA0#8, 0x01#8, 0x2C#8, 0x7E#8]) = .ok (.sPlayIndex 0x01#8 0x2C#8) := by decide
theorem test_decode_sPlayMp3Folder : decode cfgSb (.wire [0x7E#8, 0x04#8, 0xB2#8, 0x00#8, 0x07#8, 0x7E#8]) = .ok (.sPlayMp3Folder 0x00#8 0x07#8) := by decide
theorem test_decode_sPlayFolderTrack : decode cfgSb (.wire [0x7E#8, 0x04#8, 0xBF#8, 0x03#8, 0x0A#8, 0x7E#8]) = .ok (.sPlayFolderTrack 0x03#8 0x0A#8) := by decide
theorem test_decode_sStop : decode cfgSb (.wire [0x7E#8, 0x02#8, 0xC6#8, 0x7E#8]) = .ok (.sStop) := by decide
theorem test_decode_sPause : decode cfgSb (.wire [0x7E#8, 0x02#8, 0xBE#8, 0x7E#8]) = .ok (.sPause) := by decide
theorem test_decode_sResume : decode cfgSb (.wire [0x7E#8, 0x02#8, 0xBD#8, 0x7E#8]) = .ok (.sResume) := by decide
theorem test_decode_sNext : decode cfgSb (.wire [0x7E#8, 0x02#8, 0xB1#8, 0x7E#8]) = .ok (.sNext) := by decide
theorem test_decode_sPrev : decode cfgSb (.wire [0x7E#8, 0x02#8, 0xB3#8, 0x7E#8]) = .ok (.sPrev) := by decide
theorem test_decode_sSetEq : decode cfgSb (.wire [0x7E#8, 0x03#8, 0xB7#8, 0x02#8, 0x7E#8]) = .ok (.sSetEq 0x02#8) := by decide
theorem test_decode_sSetPlayMode : decode cfgSb (.wire [0x7E#8, 0x03#8, 0xB8#8, 0x01#8, 0x7E#8]) = .ok (.sSetPlayMode (.one 0x01#8)) := by decide
theorem test_decode_sLoopFolder : decode cfgSb (.wire [0x7E#8, 0x04#8, 0xC7#8, 0x00#8, 0x01#8, 0x7E#8]) = .ok (.sLoopFolder (.two 0x00#8 0x01#8)) := by decide
theorem test_decode_sShuffleFolder : decode cfgSb (.wire [0x7E#8, 0x02#8, 0xC8#8, 0x7E#8]) = .ok (.sShuffleFolder .none) := by decide
theorem test_decode_unknown_command : decode cfgSb (.wire [0x7E#8, 0x02#8, 0x11#8, 0x7E#8]) = .error .noSuchCommand := by decide
theorem test_decode_not_a_frame : decode cfgSb (.wire [0x7E#8, 0x02#8, 0xC6#8, 0x7F#8]) = .error .notAFrame := by decide

/-! ### The codec (95_test_vectors.md 2) -/

theorem test_buildC_smallest_sum : buildC 0x00#8 0x00#8 0x00#8 = [0x7E#8, 0xFF#8, 0x06#8, 0x00#8, 0x00#8, 0x00#8, 0x00#8, 0xFE#8, 0xFA#8, 0xEF#8] := by decide
theorem test_buildC_largest_sum : buildC 0xFF#8 0xFF#8 0xFF#8 = [0x7E#8, 0xFF#8, 0x06#8, 0xFF#8, 0x00#8, 0xFF#8, 0xFF#8, 0xFB#8, 0xFD#8, 0xEF#8] := by decide
theorem test_buildC_borrow_into_high_byte : buildC 0xFB#8 0x00#8 0x00#8 = [0x7E#8, 0xFF#8, 0x06#8, 0xFB#8, 0x00#8, 0x00#8, 0x00#8, 0xFD#8, 0xFF#8, 0xEF#8] := by decide
theorem test_buildS_shortest : buildS 0xA0#8 [] = [0x7E#8, 0x02#8, 0xA0#8, 0x7E#8] := by decide
theorem test_buildS_len_wraps_at_254 : (buildS 0x55#8 (List.replicate 254 0#8))[1]? = some 0x00#8 := by
  rw [buildS, List.length_replicate]; decide
theorem test_buildS_len_at_253 : (buildS 0x55#8 (List.replicate 253 0#8))[1]? = some 0xFF#8 := by
  rw [buildS, List.length_replicate]; decide

/-! ### One step of each instruction (95_test_vectors.md 3.1, 3.2, P1 to P5) -/

theorem test_exec_init : events (.init 1#16 2#16 9600#32) (State.resetWith cfgCa) = some [.config 1#16 2#16 9600#32, .delay 150] := by decide
theorem test_exec_selectDevice_C : events (.selectDevice) (ready cfgCa false) = some [.tx [0x7E#8, 0xFF#8, 0x06#8, 0x49#8, 0x00#8, 0x00#8, 0x22#8, 0xFE#8, 0x8F#8, 0xEF#8], .delay 200] := by decide
theorem test_exec_selectDevice_S : events (.selectDevice) (ready cfgSb false) = some [.tx [0x7E#8, 0x03#8, 0xB9#8, 0x33#8, 0x7E#8], .delay 200] := by decide
theorem test_exec_setVolume_above : events (.setVolume 999#32) (ready cfgCa false) = some [.tx [0x7E#8, 0xFF#8, 0x06#8, 0x46#8, 0x00#8, 0x00#8, 0x1E#8, 0xFE#8, 0x96#8, 0xEF#8]] := by decide
theorem test_exec_setVolume_below : events (.setVolume (BitVec.ofInt 32 (-5))) (ready cfgSb false) = some [.tx [0x7E#8, 0x03#8, 0xB6#8, 0x00#8, 0x7E#8]] := by decide
theorem test_exec_playByIndex_above : events (.playByIndex 70000#32) (ready cfgSb false) = some [.tx [0x7E#8, 0x04#8, 0xA0#8, 0xFF#8, 0xFF#8, 0x7E#8]] := by decide
theorem test_exec_playByIndex_low_limit : events (.playByIndex 3001#32) (ready cfgSa false) = some [.tx [0x7E#8, 0x04#8, 0xA0#8, 0x0B#8, 0xB8#8, 0x7E#8]] := by decide
theorem test_exec_playInFolder_example : events (.playInFolder 3#32 10#32) (ready cfgCa false) = some [.tx [0x7E#8, 0xFF#8, 0x06#8, 0x0F#8, 0x00#8, 0x03#8, 0x0A#8, 0xFE#8, 0xDE#8, 0xEF#8]] := by decide
theorem test_exec_playInFolder_clamps_both : events (.playInFolder 0#32 300#32) (ready cfgCa false) = some [.tx [0x7E#8, 0xFF#8, 0x06#8, 0x0F#8, 0x00#8, 0x01#8, 0xFF#8, 0xFD#8, 0xEB#8, 0xEF#8]] := by decide
theorem test_exec_playFromNamedFolder_2999 : events (.playFromNamedFolder 5000#32) (ready cfgCa false) = some [.tx [0x7E#8, 0xFF#8, 0x06#8, 0x52#8, 0x00#8, 0x0B#8, 0xB7#8, 0xFD#8, 0xE6#8, 0xEF#8]] := by decide
theorem test_exec_playFromNamedFolder_65535 : events (.playFromNamedFolder 5000#32) (ready cfgSb false) = some [.tx [0x7E#8, 0x04#8, 0xB2#8, 0x13#8, 0x88#8, 0x7E#8]] := by decide
theorem test_exec_setEqualizer_above : events (.setEqualizer 6#32) (ready cfgCa false) = some [.tx [0x7E#8, 0xFF#8, 0x06#8, 0x47#8, 0x00#8, 0x00#8, 0x05#8, 0xFE#8, 0xAE#8, 0xEF#8]] := by decide
theorem test_exec_setEqualizer_below : events (.setEqualizer (BitVec.ofInt 32 (-1))) (ready cfgSb false) = some [.tx [0x7E#8, 0x03#8, 0xB7#8, 0x00#8, 0x7E#8]] := by decide
theorem test_exec_setPlayMode_two_parameters : events (.setPlayMode 2#32) (ready cfgCa false) = some [.tx [0x7E#8, 0xFF#8, 0x06#8, 0x57#8, 0x00#8, 0x00#8, 0x01#8, 0xFE#8, 0xA2#8, 0xEF#8]] := by decide
theorem test_exec_setPlayMode_no_parameter : events (.setPlayMode 4#32) (ready cfgSa false) = some [.tx [0x7E#8, 0x02#8, 0xC8#8, 0x7E#8]] := by decide
theorem test_exec_stop : events (.stop) (ready cfgSb true) = some [.tx [0x7E#8, 0x02#8, 0xC6#8, 0x7E#8]] := by decide
theorem test_exec_next : events (.next) (ready cfgCb false) = some [.tx [0x7E#8, 0xFF#8, 0x06#8, 0x41#8, 0x00#8, 0x00#8, 0x00#8, 0xFE#8, 0xB9#8, 0xEF#8]] := by decide
theorem test_exec_prev : events (.prev) (ready cfgSb false) = some [.tx [0x7E#8, 0x02#8, 0xB3#8, 0x7E#8]] := by decide
theorem test_exec_reserved : events (.reserved 0xFF#8) (ready cfgCa false) = some [] := by decide
theorem test_exec_init_sets_the_state : (after (exec (.init 3#16 4#16 115200#32) (ready cfgSb true))).map (fun t => (t.init, t.paused, t.tcfg)) = some (true, true, ⟨3#16, 4#16, 115200#32⟩) := by decide
theorem test_exec_pauseResume_pauses : (after (exec .pauseResume (ready cfgSb false))).map (fun t => (t.paused, t.evlog)) = some (true, [.tx [0x7E#8, 0x02#8, 0xBE#8, 0x7E#8]]) := by decide
theorem test_exec_pauseResume_resumes : (after (exec .pauseResume (ready cfgCa true))).map (fun t => (t.paused, t.evlog)) = some (false, [.tx [0x7E#8, 0xFF#8, 0x06#8, 0x4D#8, 0x00#8, 0x00#8, 0x00#8, 0xFE#8, 0xAD#8, 0xEF#8]]) := by decide
theorem test_exec_pauseResume_before_init : after (exec .pauseResume (State.resetWith cfgSb)) = some (State.resetWith cfgSb) := by decide
theorem test_exec_selectDevice_before_init : after (exec .selectDevice (State.resetWith cfgCa)) = some (State.resetWith cfgCa) := by decide
theorem test_exec_buildC_before_init : (after (exec (.buildC 0x0F#8 0x03#8 0x0A#8) (State.resetWith cfgSb))).map (fun t => (t.replies, t.evlog)) = some ([[0x7E#8, 0xFF#8, 0x06#8, 0x0F#8, 0x00#8, 0x03#8, 0x0A#8, 0xFE#8, 0xDE#8, 0xEF#8]], []) := by decide
theorem test_exec_buildS_at_the_limit : (after (exec (.buildS 0x55#8 [1#8, 2#8, 3#8, 4#8, 5#8, 6#8]) (ready cfgCa false))).map (fun t => t.replies) = some [[0x7E#8, 0x08#8, 0x55#8, 0x01#8, 0x02#8, 0x03#8, 0x04#8, 0x05#8, 0x06#8, 0x7E#8]] := by decide
theorem test_exec_buildS_over_the_limit : refusal (exec (.buildS 0x55#8 [1#8, 2#8, 3#8, 4#8, 5#8, 6#8, 7#8]) (ready cfgCa false)) = some .listCannotBeFormed := by decide

/-! Wire commands: each frame of the table above, written by the command it decodes to, and nothing where the
sequencer cannot emit it (R74, R120). -/

theorem test_exec_cSelectDevice : events (.cSelectDevice) (ready cfgCb false) = some [.tx [0x7E#8, 0xFF#8, 0x06#8, 0x49#8, 0x00#8, 0x00#8, 0x22#8, 0xFE#8, 0x8F#8, 0xEF#8]] ∧ events (.cSelectDevice) (ready cfgSb false) = some [] ∧ events (.cSelectDevice) (State.resetWith cfgCb) = some [] := by decide
theorem test_exec_cSetVolume : events (.cSetVolume 0x1E#8) (ready cfgCb false) = some [.tx [0x7E#8, 0xFF#8, 0x06#8, 0x46#8, 0x00#8, 0x00#8, 0x1E#8, 0xFE#8, 0x96#8, 0xEF#8]] ∧ events (.cSetVolume 0x1E#8) (ready cfgSb false) = some [] ∧ events (.cSetVolume 0x1E#8) (State.resetWith cfgCb) = some [] := by decide
theorem test_exec_cPlayIndex : events (.cPlayIndex 0x01#8 0x2C#8) (ready cfgCb false) = some [.tx [0x7E#8, 0xFF#8, 0x06#8, 0x43#8, 0x00#8, 0x01#8, 0x2C#8, 0xFE#8, 0x8A#8, 0xEF#8]] ∧ events (.cPlayIndex 0x01#8 0x2C#8) (ready cfgSb false) = some [] ∧ events (.cPlayIndex 0x01#8 0x2C#8) (State.resetWith cfgCb) = some [] := by decide
theorem test_exec_cPlayMp3Folder : events (.cPlayMp3Folder 0x00#8 0x07#8) (ready cfgCb false) = some [.tx [0x7E#8, 0xFF#8, 0x06#8, 0x52#8, 0x00#8, 0x00#8, 0x07#8, 0xFE#8, 0xA1#8, 0xEF#8]] ∧ events (.cPlayMp3Folder 0x00#8 0x07#8) (ready cfgSb false) = some [] ∧ events (.cPlayMp3Folder 0x00#8 0x07#8) (State.resetWith cfgCb) = some [] := by decide
theorem test_exec_cPlayFolderTrack : events (.cPlayFolderTrack 0x03#8 0x0A#8) (ready cfgCb false) = some [.tx [0x7E#8, 0xFF#8, 0x06#8, 0x0F#8, 0x00#8, 0x03#8, 0x0A#8, 0xFE#8, 0xDE#8, 0xEF#8]] ∧ events (.cPlayFolderTrack 0x03#8 0x0A#8) (ready cfgSb false) = some [] ∧ events (.cPlayFolderTrack 0x03#8 0x0A#8) (State.resetWith cfgCb) = some [] := by decide
theorem test_exec_cStop : events (.cStop) (ready cfgCb false) = some [.tx [0x7E#8, 0xFF#8, 0x06#8, 0x56#8, 0x00#8, 0x00#8, 0x00#8, 0xFE#8, 0xA4#8, 0xEF#8]] ∧ events (.cStop) (ready cfgSb false) = some [] ∧ events (.cStop) (State.resetWith cfgCb) = some [] := by decide
theorem test_exec_cPause : events (.cPause) (ready cfgCb false) = some [.tx [0x7E#8, 0xFF#8, 0x06#8, 0x4E#8, 0x00#8, 0x00#8, 0x00#8, 0xFE#8, 0xAC#8, 0xEF#8]] ∧ events (.cPause) (ready cfgSb false) = some [] ∧ events (.cPause) (State.resetWith cfgCb) = some [] := by decide
theorem test_exec_cResume : events (.cResume) (ready cfgCb false) = some [.tx [0x7E#8, 0xFF#8, 0x06#8, 0x4D#8, 0x00#8, 0x00#8, 0x00#8, 0xFE#8, 0xAD#8, 0xEF#8]] ∧ events (.cResume) (ready cfgSb false) = some [] ∧ events (.cResume) (State.resetWith cfgCb) = some [] := by decide
theorem test_exec_cNext : events (.cNext) (ready cfgCb false) = some [.tx [0x7E#8, 0xFF#8, 0x06#8, 0x41#8, 0x00#8, 0x00#8, 0x00#8, 0xFE#8, 0xB9#8, 0xEF#8]] ∧ events (.cNext) (ready cfgSb false) = some [] ∧ events (.cNext) (State.resetWith cfgCb) = some [] := by decide
theorem test_exec_cPrev : events (.cPrev) (ready cfgCb false) = some [.tx [0x7E#8, 0xFF#8, 0x06#8, 0x42#8, 0x00#8, 0x00#8, 0x00#8, 0xFE#8, 0xB8#8, 0xEF#8]] ∧ events (.cPrev) (ready cfgSb false) = some [] ∧ events (.cPrev) (State.resetWith cfgCb) = some [] := by decide
theorem test_exec_cSetEq : events (.cSetEq 0x02#8) (ready cfgCb false) = some [.tx [0x7E#8, 0xFF#8, 0x06#8, 0x47#8, 0x00#8, 0x00#8, 0x02#8, 0xFE#8, 0xB1#8, 0xEF#8]] ∧ events (.cSetEq 0x02#8) (ready cfgSb false) = some [] ∧ events (.cSetEq 0x02#8) (State.resetWith cfgCb) = some [] := by decide
theorem test_exec_cSetPlayMode : events (.cSetPlayMode 0x00#8 0x01#8) (ready cfgCb false) = some [.tx [0x7E#8, 0xFF#8, 0x06#8, 0x48#8, 0x00#8, 0x00#8, 0x01#8, 0xFE#8, 0xB1#8, 0xEF#8]] ∧ events (.cSetPlayMode 0x00#8 0x01#8) (ready cfgSb false) = some [] ∧ events (.cSetPlayMode 0x00#8 0x01#8) (State.resetWith cfgCb) = some [] := by decide
theorem test_exec_cLoopFolder : events (.cLoopFolder 0x00#8 0x01#8) (ready cfgCb false) = some [.tx [0x7E#8, 0xFF#8, 0x06#8, 0x57#8, 0x00#8, 0x00#8, 0x01#8, 0xFE#8, 0xA2#8, 0xEF#8]] ∧ events (.cLoopFolder 0x00#8 0x01#8) (ready cfgSb false) = some [] ∧ events (.cLoopFolder 0x00#8 0x01#8) (State.resetWith cfgCb) = some [] := by decide
theorem test_exec_cShuffleFolder : events (.cShuffleFolder 0x00#8 0x00#8) (ready cfgCb false) = some [.tx [0x7E#8, 0xFF#8, 0x06#8, 0x58#8, 0x00#8, 0x00#8, 0x00#8, 0xFE#8, 0xA2#8, 0xEF#8]] ∧ events (.cShuffleFolder 0x00#8 0x00#8) (ready cfgSb false) = some [] ∧ events (.cShuffleFolder 0x00#8 0x00#8) (State.resetWith cfgCb) = some [] := by decide
theorem test_exec_sSelectDevice : events (.sSelectDevice) (ready cfgSb false) = some [.tx [0x7E#8, 0x03#8, 0xB9#8, 0x33#8, 0x7E#8]] ∧ events (.sSelectDevice) (ready cfgCb false) = some [] ∧ events (.sSelectDevice) (State.resetWith cfgSb) = some [] := by decide
theorem test_exec_sSetVolume : events (.sSetVolume 0x1F#8) (ready cfgSb false) = some [.tx [0x7E#8, 0x03#8, 0xB6#8, 0x1F#8, 0x7E#8]] ∧ events (.sSetVolume 0x1F#8) (ready cfgCb false) = some [] ∧ events (.sSetVolume 0x1F#8) (State.resetWith cfgSb) = some [] := by decide
theorem test_exec_sPlayIndex : events (.sPlayIndex 0x01#8 0x2C#8) (ready cfgSb false) = some [.tx [0x7E#8, 0x04#8, 0xA0#8, 0x01#8, 0x2C#8, 0x7E#8]] ∧ events (.sPlayIndex 0x01#8 0x2C#8) (ready cfgCb false) = some [] ∧ events (.sPlayIndex 0x01#8 0x2C#8) (State.resetWith cfgSb) = some [] := by decide
theorem test_exec_sPlayMp3Folder : events (.sPlayMp3Folder 0x00#8 0x07#8) (ready cfgSb false) = some [.tx [0x7E#8, 0x04#8, 0xB2#8, 0x00#8, 0x07#8, 0x7E#8]] ∧ events (.sPlayMp3Folder 0x00#8 0x07#8) (ready cfgCb false) = some [] ∧ events (.sPlayMp3Folder 0x00#8 0x07#8) (State.resetWith cfgSb) = some [] := by decide
theorem test_exec_sPlayFolderTrack : events (.sPlayFolderTrack 0x03#8 0x0A#8) (ready cfgSb false) = some [.tx [0x7E#8, 0x04#8, 0xBF#8, 0x03#8, 0x0A#8, 0x7E#8]] ∧ events (.sPlayFolderTrack 0x03#8 0x0A#8) (ready cfgCb false) = some [] ∧ events (.sPlayFolderTrack 0x03#8 0x0A#8) (State.resetWith cfgSb) = some [] := by decide
theorem test_exec_sStop : events (.sStop) (ready cfgSb false) = some [.tx [0x7E#8, 0x02#8, 0xC6#8, 0x7E#8]] ∧ events (.sStop) (ready cfgCb false) = some [] ∧ events (.sStop) (State.resetWith cfgSb) = some [] := by decide
theorem test_exec_sPause : events (.sPause) (ready cfgSb false) = some [.tx [0x7E#8, 0x02#8, 0xBE#8, 0x7E#8]] ∧ events (.sPause) (ready cfgCb false) = some [] ∧ events (.sPause) (State.resetWith cfgSb) = some [] := by decide
theorem test_exec_sResume : events (.sResume) (ready cfgSb false) = some [.tx [0x7E#8, 0x02#8, 0xBD#8, 0x7E#8]] ∧ events (.sResume) (ready cfgCb false) = some [] ∧ events (.sResume) (State.resetWith cfgSb) = some [] := by decide
theorem test_exec_sNext : events (.sNext) (ready cfgSb false) = some [.tx [0x7E#8, 0x02#8, 0xB1#8, 0x7E#8]] ∧ events (.sNext) (ready cfgCb false) = some [] ∧ events (.sNext) (State.resetWith cfgSb) = some [] := by decide
theorem test_exec_sPrev : events (.sPrev) (ready cfgSb false) = some [.tx [0x7E#8, 0x02#8, 0xB3#8, 0x7E#8]] ∧ events (.sPrev) (ready cfgCb false) = some [] ∧ events (.sPrev) (State.resetWith cfgSb) = some [] := by decide
theorem test_exec_sSetEq : events (.sSetEq 0x02#8) (ready cfgSb false) = some [.tx [0x7E#8, 0x03#8, 0xB7#8, 0x02#8, 0x7E#8]] ∧ events (.sSetEq 0x02#8) (ready cfgCb false) = some [] ∧ events (.sSetEq 0x02#8) (State.resetWith cfgSb) = some [] := by decide
theorem test_exec_sSetPlayMode : events (.sSetPlayMode (.one 0x01#8)) (ready cfgSb false) = some [.tx [0x7E#8, 0x03#8, 0xB8#8, 0x01#8, 0x7E#8]] ∧ events (.sSetPlayMode (.one 0x01#8)) (ready cfgCb false) = some [] ∧ events (.sSetPlayMode (.one 0x01#8)) (State.resetWith cfgSb) = some [] := by decide
theorem test_exec_sLoopFolder : events (.sLoopFolder (.two 0x00#8 0x01#8)) (ready cfgSb false) = some [.tx [0x7E#8, 0x04#8, 0xC7#8, 0x00#8, 0x01#8, 0x7E#8]] ∧ events (.sLoopFolder (.two 0x00#8 0x01#8)) (ready cfgCb false) = some [] ∧ events (.sLoopFolder (.two 0x00#8 0x01#8)) (State.resetWith cfgSb) = some [] := by decide
theorem test_exec_sShuffleFolder : events (.sShuffleFolder .none) (ready cfgSb false) = some [.tx [0x7E#8, 0x02#8, 0xC8#8, 0x7E#8]] ∧ events (.sShuffleFolder .none) (ready cfgCb false) = some [] ∧ events (.sShuffleFolder .none) (State.resetWith cfgSb) = some [] := by decide

/-! ### Steps -/

theorem test_step_runs_the_head : (after (step { ready cfgSb true with pending := [.command 0x0ADEADBEEF12345678#72, .command 0#72] })).map (fun t => (t.evlog, t.pending)) = some ([.tx [0x7E#8, 0x02#8, 0xC6#8, 0x7E#8]], [.command 0#72]) := by decide
theorem test_step_waits : after (step (ready cfgSb true)) = some (ready cfgSb true) := by decide
theorem test_step_rejects_bytes_by_name : refusal (step { ready cfgSb true with pending := [.wire [0x7E#8]] }) = some (.undecodable .notAFrame) := by decide
theorem test_step_first_after_reset : (after (step (State.reset.withFetchWord 72 0x010000258000020001))).map (fun t => (t.init, t.tcfg)) = some (true, ⟨1#16, 2#16, 9600#32⟩) := by decide
theorem test_step_table_row_after_reset : (after (step (State.reset.withFetchWord 32 0x7E02007E))).map (fun t => t.replies) = some [[0x7E#8, 0x02#8, 0x00#8, 0x7E#8]] := by decide
theorem test_tcfg_layout : tcfgWord ⟨0x1111#16, 0x2222#16, 0x33334444#32⟩ = 0x3333444422221111#64 := by decide

/-! ### Witnesses: values that meet the hypotheses of each statement that has some

One word of the request port in front of a Ready state, and so on; a range is met at both its ends and outside. -/

theorem witness_StepRunsTheDecodedInstruction :
    { ready cfgSb true with pending := [.command 0x0A0000000000000000#72] }.pending = [.command 0x0A0000000000000000#72] ∧
    decode cfgSb (.command 0x0A0000000000000000#72) = .ok .stop := by decide
theorem witness_StepWaitsForARequest : (ready cfgSb true).pending = [] := by decide
theorem witness_ArgumentsAreTwosComplement :
    (0x037FFFFFFF00000000#72).toNat / 2 ^ 64 = 3 ∧ (0x04FFFFFFFF00000000#72).toNat / 2 ^ 64 = 4 ∧
    (0x058000000080000000#72).toNat / 2 ^ 64 = 5 ∧ (0x060000000000000000#72).toNat / 2 ^ 64 = 6 ∧
    (0x070000000500000000#72).toNat / 2 ^ 64 = 7 ∧ (0x080000000300000000#72).toNat / 2 ^ 64 = 8 := by decide
theorem witness_IgnoredFieldsHaveNoEffect :
    agreeOnUsedFields 0x0ADEADBEEF12345678#72 0x0A0000000000000000#72 ∧
    agreeOnUsedFields 0x0300000014FFFFFFFF#72 0x030000001400000000#72 ∧
    agreeOnUsedFields 0x050000000300000001#72 0x050000000300000001#72 := by
  simp only [agreeOnUsedFields]; decide
theorem witness_DecodeEncodeOnTheHostPorts :
    (wellFormed (.setVolume 0x80000000#32) = true ∧ Instr.port (.setVolume 0x80000000#32) ≠ .wire) ∧
    (wellFormed (.reserved 0xFF#8) = true ∧ Instr.port (.reserved 0xFF#8) ≠ .wire) ∧
    (wellFormed (.buildS 0#8 [0x7E#8]) = true ∧ Instr.port (.buildS 0#8 [0x7E#8]) ≠ .wire) := by decide
theorem witness_DecodeEncodeOnTheWire :
    (opcodesDistinct cfgCa .C ∧ ofVariant .C (.cSetEq 0xFF#8) = true ∧ Instr.port (.cSetEq 0xFF#8) = .wire) ∧
    (opcodesDistinct cfgCa .S ∧ ofVariant .S (.sLoopFolder .none) = true ∧ Instr.port (.sLoopFolder .none) = .wire) := by decide
theorem witness_DecodedWireBytesAreTheBytesWritten :
    decode (ready cfgSb false).cfg (.wire [0x7E#8, 0x02#8, 0xC6#8, 0x7E#8]) = .ok .sStop ∧ (ready cfgSb false).init = true ∧
    ofVariant (ready cfgSb false).cfg.variant .sStop = true := by decide
theorem witness_FetchWordRunsNext :
    decodeTableWord 72 0x0B0000000000000000 = some .next ∧ decodeTableWord 8 0x7E = none := by decide
theorem witness_ConfigurationConstraints :
    ((30 : Int) ∈ [30, 31] ∧ (65535 : Int) ∈ [2999, 3000, 65535] ∧ cfgCb.variant = .C ∧ idxMax cfgCb = 65535) ∧
    ((31 : Int) ∈ [30, 31] ∧ (2999 : Int) ∈ [2999, 3000, 65535] ∧ volMax cfgSb = 31 ∧ idxMax cfgCa = 2999) := by decide
theorem witness_ChecksumIsTheComplementedSum :
    List.Perm [0x0A#8, 0x03#8, 0x00#8, 0x0F#8, 0x06#8, 0xFF#8] [0xFF#8, 0x06#8, 0x0F#8, 0x00#8, 0x03#8, 0x0A#8] := by decide
theorem witness_BuildSimpleFrameBytes : ([] : List Byte).length ≤ 253 ∧ (List.replicate 253 (0#8 : Byte)).length ≤ 253 :=
  ⟨Nat.zero_le _, Nat.le_of_eq List.length_replicate⟩
theorem witness_CodecLaws :
    (buildC 0x0F#8 0x03#8 0x0A#8).drop 1 = [0xFF#8, 0x06#8, 0x0F#8, 0x00#8, 0x03#8, 0x0A#8, 0xFE#8, 0xDE#8, 0xEF#8] ∧
    buildC 0x0F#8 0x03#8 0x0A#8 = buildC 0x0F#8 0x03#8 0x0A#8 ∧ buildS 0xA0#8 [] = buildS 0xA0#8 [] := by decide
theorem witness_CodecPortAnswersTheFrame : ([0#8, 0#8, 0#8, 0#8, 0#8, 0#8] : List Byte).length ≤ nparamMax (ready cfgCa false).cfg := by decide
theorem witness_ListsTooLongForThePortAreRefused : nparamMax (ready cfgCa false).cfg < ([0#8, 0#8, 0#8, 0#8, 0#8, 0#8, 0#8] : List Byte).length := by decide
theorem witness_SelectDeviceWritesThenWaits : (State.resetWith cfgCa).init = false ∧ (ready cfgCa false).init = true := by decide
theorem witness_ReservedSelectorsAreConsumed :
    { ready cfgCa false with pending := [.command 0x00123456789ABCDEF0#72] }.pending = [.command 0x00123456789ABCDEF0#72] ∧
    (0x00123456789ABCDEF0#72).toNat / 2 ^ 64 = 0 ∧ 0x0D ≤ (0x0D0000000000000000#72).toNat / 2 ^ 64 ∧
    0x0D ≤ (0xFF0000000000000000#72).toNat / 2 ^ 64 := by decide
theorem witness_OnlyInitConfigures :
    (after (exec (.init 1#16 2#16 9600#32) (State.resetWith cfgCa))).isSome = true ∧
    (after (exec .selectDevice (ready cfgCa false))).isSome = true ∧
    (after (exec .stop (State.resetWith cfgCa))).isSome = true := by decide
theorem witness_UninitializedOperationsDoNothing :
    isGuarded .selectDevice = true ∧ isGuarded (.setVolume 0#32) = true ∧ isGuarded .prev = true ∧ (State.resetWith cfgCa).init = false := by decide
theorem witness_SetVolumeWritesTheClampedLevel :
    NearestIn (BitVec.toInt (0x80000000#32)) 0 30 0 ∧ NearestIn (BitVec.toInt (0#32)) 0 30 0 ∧
    NearestIn (BitVec.toInt (30#32)) 0 30 30 ∧ NearestIn (BitVec.toInt (31#32)) 0 30 30 ∧ NearestIn (BitVec.toInt (0x7FFFFFFF#32)) 0 31 31 := by
  simp only [NearestIn]; decide
theorem witness_PlayByIndexWritesTheClampedIndex :
    NearestIn (BitVec.toInt (0#32)) 1 2999 1 ∧ NearestIn (BitVec.toInt (1#32)) 1 2999 1 ∧
    NearestIn (BitVec.toInt (3000#32)) 1 3000 3000 ∧ NearestIn (BitVec.toInt (70000#32)) 1 65535 65535 := by
  simp only [NearestIn]; decide
theorem witness_PlayInFolderWritesFolderAndTrack :
    (NearestIn (BitVec.toInt (0#32)) 1 99 1 ∧ NearestIn (BitVec.toInt (256#32)) 1 255 255) ∧
    (NearestIn (BitVec.toInt (99#32)) 1 99 99 ∧ NearestIn (BitVec.toInt (255#32)) 1 255 255) ∧
    (NearestIn (BitVec.toInt (100#32)) 1 99 99 ∧ NearestIn (BitVec.toInt (1#32)) 1 255 1) := by
  simp only [NearestIn]; decide
theorem witness_PlayFromNamedFolderWritesTheClampedIndex :
    NearestIn (BitVec.toInt (5000#32)) 1 2999 2999 ∧ NearestIn (BitVec.toInt (5000#32)) 1 65535 5000 := by
  simp only [NearestIn]; decide
theorem witness_SetEqualizerWritesTheModesCode :
    (NearestIn (BitVec.toInt (0xFFFFFFFF#32)) 0 5 0 ∧ [0#8, 1#8, 2#8, 3#8, 4#8, 5#8][0]? = some (0#8 : Byte)) ∧
    (NearestIn (BitVec.toInt (5#32)) 0 5 5 ∧ NearestIn (BitVec.toInt (6#32)) 0 5 5 ∧
      [0#8, 1#8, 2#8, 3#8, 4#8, 5#8][5]? = some (5#8 : Byte)) := by
  simp only [NearestIn]; decide
theorem witness_SetPlayModeWritesTheTableEntry :
    (NearestIn (BitVec.toInt (0xFFFFFFFC#32)) 0 3 0 ∧
      [cfgCa.pmC.loopOff, cfgCa.pmC.repeatCurrent, cfgCa.pmC.loopAll, cfgCa.pmC.shuffle][0]? = some ⟨0x48#8, .one 0#8⟩) ∧
    (NearestIn (BitVec.toInt (4#32)) 0 3 3 ∧
      [cfgCa.pmC.loopOff, cfgCa.pmC.repeatCurrent, cfgCa.pmC.loopAll, cfgCa.pmC.shuffle][3]? = some ⟨0x58#8, .none⟩) := by
  simp only [NearestIn]; decide
theorem witness_PauseResumeTogglesAndWrites :
    (State.resetWith cfgCa).init = false ∧ ((ready cfgCa false).init = true ∧ (ready cfgCa false).paused = false) ∧
    ((ready cfgCa true).init = true ∧ (ready cfgCa true).paused = true) := by decide
theorem witness_StopNextPrevWriteTheirOpcode :
    ((Instr.stop, Key.stop) ∈ [(Instr.stop, Key.stop), (.next, .next), (.prev, .prev)]) ∧
    ((Instr.prev, Key.prev) ∈ [(Instr.stop, Key.stop), (.next, .next), (.prev, .prev)]) ∧ (ready cfgCa true).init = true := by decide
theorem witness_PlaybackWritesExactlyOneFrame :
    isPlayback .pauseResume = true ∧ isPlayback (.setVolume 0#32) = true ∧ (ready cfgCa true).init = true ∧
    (booted cfgCa).cfg = (ready cfgCa true).cfg ∧ (booted cfgCa).init = true ∧
    (booted cfgCa).paused = (ready cfgCa false).paused := by decide
theorem witness_FormatCCommandsWriteTheirFrame :
    ((ready cfgCa false).init = true ∧ (ready cfgCa false).cfg.variant = .C) ∧
    ¬ ((ready cfgSa false).init = true ∧ (ready cfgSa false).cfg.variant = .C) ∧
    ¬ ((State.resetWith cfgCa).init = true ∧ (State.resetWith cfgCa).cfg.variant = .C) := by decide
theorem witness_FormatSCommandsWriteTheirFrame :
    ((ready cfgSa false).init = true ∧ (ready cfgSa false).cfg.variant = .S) ∧
    ¬ ((ready cfgCa false).init = true ∧ (ready cfgCa false).cfg.variant = .S) ∧
    ¬ ((State.resetWith cfgSa).init = true ∧ (State.resetWith cfgSa).cfg.variant = .S) := by decide
theorem witness_OperationsEmitTheirWireCommands :
    (ready cfgCa false).init = true ∧ NearestIn (BitVec.toInt (999#32)) 0 (volMax cfgCa) 30 ∧
    NearestIn (BitVec.toInt (0#32)) 1 (idxMax cfgCa) 1 ∧ NearestIn (BitVec.toInt (3#32)) 1 99 3 ∧
    NearestIn (BitVec.toInt (10#32)) 1 255 10 ∧
    pmEntry cfgCa .C 0#32 = ⟨opc cfgCa .C .setPlayMode, .one 0#8⟩ ∧
    pmEntry cfgCa .C 2#32 = ⟨opc cfgCa .C .loopFolder, .two 0#8 1#8⟩ ∧
    pmEntry cfgCa .C 3#32 = ⟨opc cfgCa .C .shuffleFolder, .none⟩ ∧
    (ready cfgCa false).paused = false ∧ (ready cfgCa true).paused = true := by
  simp only [NearestIn]; decide
theorem witness_StepKeepsTheInvariant : Inv (booted cfgCa) ∧ (after (step (booted cfgCa))).isSome = true := by
  refine ⟨⟨by decide, ?_, by decide, ?_⟩, by decide⟩
  · intro e rest h; cases h; rfl
  · intro e he
    simp only [booted, List.mem_cons, List.not_mem_nil, or_false] at he
    rcases he with rfl | rfl
    · trivial
    · exact .inl rfl
theorem witness_StepNeverTakesBack :
    (after (step { booted cfgCa with pending := [.command 0x090000000000000000#72] })).isSome = true ∧ (booted cfgCa).init = true := by decide
theorem witness_HostRunsNeverStop :
    ∀ p ∈ [PortWord.command 0xFF0000000000000000#72, .codecC 0#8 0#8 0#8, .codecS 0#8 [0#8, 0#8, 0#8, 0#8, 0#8, 0#8]], hostCanForm cfgCa p = true := by decide
theorem witness_OneFrameForEachOperation :
    (booted cfgCa).init = true ∧ writesFrame 0x020000000000000000#72 = true ∧ writesFrame 0x0C0000000000000000#72 = true ∧
    writesFrame 0x010000000000000000#72 = false ∧ writesFrame 0x0D0000000000000000#72 = false := by decide
theorem witness_NothingHappensBeforeInit :
    (State.resetWith cfgCa).init = false ∧
    opField 0x05000000030000000A#72 ≠ 0x01#8 ∧ opField 0x020000000000000000#72 ≠ 0x01#8 := by decide
theorem witness_PausedFollowsTheToggles : (booted cfgCa).init = true ∧ togglesPaused 0x09FFFFFFFFFFFFFFFF#72 = true := by decide
theorem witness_TwoTogglesPauseThenResume :
    (ready cfgSb false).init = true ∧ (ready cfgSb false).paused = false ∧
    after (exec .pauseResume (ready cfgSb false)) = some { ready cfgSb true with evlog := [.tx [0x7E#8, 0x02#8, 0xBE#8, 0x7E#8]] } ∧
    (after (exec .pauseResume { ready cfgSb true with evlog := [.tx [0x7E#8, 0x02#8, 0xBE#8, 0x7E#8]] })).isSome = true := by decide
theorem witness_LatestInitIsInForce : opField 0x0B0000000000000000#72 ≠ 0x01#8 := by decide
theorem witness_TcfgIsUnobservable :
    (after (run 2 (withRequests (State.resetWith cfgCa) [0x010000258000020001#72, 0x0B0000000000000000#72]))).isSome = true := by decide

end Sys2Proof.Tests
end

section
/-! The constraints of R7 and R8 on `CFG`: the range of each limit, and that every allowed limit is taken by a
configuration, whatever the others are. -/

namespace Sys2Proof.Machine

/-! ### The range of each limit -/

theorem volMax_eq_30_or_31 (c : Cfg) : volMax c = 30 ∨ volMax c = 31 := by
  unfold volMax
  cases c.volMax with
  | v30 => exact .inl rfl
  | v31 => exact .inr rfl

theorem idxMax_eq_2999_or_3000_or_65535 (c : Cfg) : idxMax c = 2999 ∨ idxMax c = 3000 ∨ idxMax c = 65535 := by
  unfold idxMax
  cases c.idxMax with
  | i2999 => exact .inl rfl
  | i3000 => exact .inr (.inl rfl)
  | i65535 => exact .inr (.inr rfl)

theorem le_tInitMs (c : Cfg) : 100 ≤ tInitMs c := Nat.le_add_right 100 _

theorem tInitMs_le (c : Cfg) : tInitMs c ≤ 200 := Nat.add_le_add_left c.tInitOver100.is_le 100

theorem nparamMax_le (c : Cfg) : nparamMax c ≤ 253 := c.nparamMax.is_le

/-! ### The two opcodes D0 fixes -/

@[simp] theorem opc_C_playFolderTrack (c : Cfg) : opc c .C .playFolderTrack = 0x0F#8 := rfl

@[simp] theorem opc_S_playIndex (c : Cfg) : opc c .S .playIndex = 0xA0#8 := rfl

/-! ### Every allowed limit is taken

The strap that gives a limit gives it in every configuration that holds the strap, so the straps of the two limits and
the variant can be chosen apart. -/

theorem exists_strap_of_volMax {vol : Int} (h : vol ∈ [30, 31]) :
    ∃ m : VolMax, ∀ c : Cfg, c.volMax = m → volMax c = vol := by
  simp only [List.mem_cons, List.not_mem_nil, or_false] at h
  obtain rfl | rfl := h
  · exact ⟨.v30, fun c hc => by simp [volMax, hc]⟩
  · exact ⟨.v31, fun c hc => by simp [volMax, hc]⟩

theorem exists_strap_of_idxMax {idx : Int} (h : idx ∈ [2999, 3000, 65535]) :
    ∃ m : IdxMax, ∀ c : Cfg, c.idxMax = m → idxMax c = idx := by
  simp only [List.mem_cons, List.not_mem_nil, or_false] at h
  obtain rfl | rfl | rfl := h
  · exact ⟨.i2999, fun c hc => by simp [idxMax, hc]⟩
  · exact ⟨.i3000, fun c hc => by simp [idxMax, hc]⟩
  · exact ⟨.i65535, fun c hc => by simp [idxMax, hc]⟩

/-- Settles O12: the constraints by the range of each limit, the independence by putting the variant and the straps of
the two limits into one configuration. -/
theorem configurationConstraints : Obligations.ConfigurationConstraints := by
  unfold Obligations.ConfigurationConstraints
  constructor
  · intro c
    exact ⟨volMax_eq_30_or_31 c, idxMax_eq_2999_or_3000_or_65535 c, opc_C_playFolderTrack c, opc_S_playIndex c,
      ⟨le_tInitMs c, tInitMs_le c⟩, nparamMax_le c⟩
  · intro v vol hvol idx hidx
    obtain ⟨vm, hvm⟩ := exists_strap_of_volMax hvol
    obtain ⟨im, him⟩ := exists_strap_of_idxMax hidx
    exact ⟨{ (default : Cfg) with variant := v, volMax := vm, idxMax := im }, rfl, hvm _ rfl, him _ rfl⟩

end Sys2Proof.Machine
end

section
/-! What the six effects of an instruction leave unchanged, and a step as an effect. Each fact reads the cases of
`Effect` once; the statements about every step follow by name. -/

namespace Sys2Proof.Machine

/-! ### The frame of an effect -/

theorem effect_cfg {i : Instr} {s t : State} (h : Effect i s t) : t.cfg = s.cfg := by
  cases h <;> rfl

theorem effect_pending {i : Instr} {s t : State} (h : Effect i s t) : t.pending = s.pending := by
  cases h <;> rfl

/-- INIT is written by init alone, and there with 1 (R35 (a)). -/
theorem effect_keeps_ready {i : Instr} {s t : State} (h : Effect i s t) (hr : s.init = true) : t.init = true := by
  cases h with
  | init tx rx baud hi => rfl
  | none | reply | write | select | toggle => exact hr

/-- Events are only appended (R31). -/
theorem effect_evlog_prefix {i : Instr} {s t : State} (h : Effect i s t) : s.evlog <+: t.evlog := by
  cases h with
  | none | reply => exact List.prefix_refl _
  | write | toggle => exact List.prefix_append _ _
  | init | select => exact (List.prefix_append _ _).trans (List.prefix_append _ _)

theorem effect_replies_prefix {i : Instr} {s t : State} (h : Effect i s t) : s.replies <+: t.replies := by
  cases h with
  | reply f => exact List.prefix_append _ _
  | none | init | write | select | toggle => exact List.prefix_refl _

/-- PAUSED is written by pauseResume alone (R23, R127; R150 for init, decision D20). -/
theorem effect_paused {i : Instr} {s t : State} (h : Effect i s t) (hi : i ≠ .pauseResume) :
    t.paused = s.paused := by
  cases h with
  | toggle hr hp => exact absurd hp hi
  | none | reply | init | write | select => rfl

/-! ### A step as an effect -/

/-- Whatever a step does is one effect on the state with the head taken off the list; waiting is the effect that does
nothing, with the whole list left. -/
theorem step_effect {s t : State} (h : step s = .next t) :
    ∃ (i : Instr) (rest : List PortWord), Effect i { s with pending := rest } t := by
  obtain ⟨-, rfl⟩ | ⟨p, rest, i, -, -, he⟩ := step_cases h
  · exact ⟨.stop, t.pending, .none⟩
  · exact ⟨i, rest, exec_effect he⟩

/-- Settles O42, by the frame of the effect a step has. -/
theorem stepNeverTakesBack : Obligations.StepNeverTakesBack := by
  unfold Obligations.StepNeverTakesBack
  intro s t h
  obtain ⟨i, rest, he⟩ := step_effect h
  have hready := effect_keeps_ready he
  have hcfg := effect_cfg he
  have hevlog := effect_evlog_prefix he
  have hreplies := effect_replies_prefix he
  exact ⟨hready, hcfg, hevlog, hreplies⟩

end Sys2Proof.Machine
end

section
/-! The invariant of R35, R62, R89 and R170: it holds after reset, and every effect keeps it. All that appends an event
in Ready does it by `logEvent`, so the one lemma about `logEvent` serves frames and delays alike. -/

namespace Sys2Proof.Machine

/-! ### The log with one event more -/

theorem latestConfig_append_singleton (log : List Event) (e : Event) :
    latestConfig (log ++ [e]) = configAfter (latestConfig log) e := by
  simp [latestConfig]

theorem configAfter_of_not_isConfig {e : Event} (he : e.isConfig = false) (acc : Option TransportConfig) :
    configAfter acc e = acc := by
  cases e with
  | config tx rx baud => cases he
  | tx f => rfl
  | delay ms => rfl

/-- A log that begins with a `CFG` element still does with one element more; the empty log does when the element is
one (R35 (c)). -/
theorem configFirst_append_singleton {log : List Event} {e : Event}
    (hlog : ∀ e' rest, log = e' :: rest → e'.isConfig = true) (he : log ≠ [] ∨ e.isConfig = true) :
    ∀ e' rest, log ++ [e] = e' :: rest → e'.isConfig = true := by
  intro e' rest h
  cases log with
  | nil =>
    obtain ⟨rfl, -⟩ := List.cons.inj h
    exact he.resolve_left fun hne => hne rfl
  | cons e₀ log =>
    obtain ⟨rfl, -⟩ := List.cons.inj h
    exact hlog e₀ log rfl

theorem legal_append_singleton {c : Cfg} {log : List Event} {e : Event}
    (hlog : ∀ e' ∈ log, e'.legal c) (he : e.legal c) : ∀ e' ∈ log ++ [e], e'.legal c :=
  List.forall_mem_append.mpr ⟨hlog, List.forall_mem_singleton.mpr he⟩

/-! ### The invariant after reset -/

theorem inv_resetWith (c : Cfg) : Inv (State.resetWith c) where
  silent := fun _ => ⟨rfl, rfl⟩
  configFirst := fun _ _ h => nomatch h
  current := fun h => nomatch h
  legal := fun _ h => nomatch h

/-- Settles O40: every strapping's reset state has an empty log, so each clause is met at once. -/
theorem invariantHoldsAtReset : Obligations.InvariantHoldsAtReset := by
  unfold Obligations.InvariantHoldsAtReset
  exact ⟨inv_resetWith Config.strap, inv_resetWith⟩

/-! ### What keeps it -/

/-- In Ready the log is not empty: it holds the `CFG` element that TCFG is read from. -/
theorem evlog_ne_nil_of_inv {s : State} (h : Inv s) (hr : s.init = true) : s.evlog ≠ [] := by
  intro hnil
  have hcur := h.current hr
  rw [hnil] at hcur
  cases hcur

theorem inv_withPending {s : State} (h : Inv s) (ps : List PortWord) : Inv { s with pending := ps } :=
  ⟨h.silent, h.configFirst, h.current, h.legal⟩

theorem inv_reply {s : State} (h : Inv s) (f : List Byte) : Inv (reply f s) :=
  ⟨h.silent, h.configFirst, h.current, h.legal⟩

theorem inv_setPaused {s : State} (h : Inv s) (hr : s.init = true) (b : Bool) : Inv (setPaused b s) where
  silent := fun hu => by simp [hr] at hu
  configFirst := h.configFirst
  current := h.current
  legal := h.legal

/-- A legal event other than `CFG` may be appended in Ready. -/
theorem inv_logEvent {s : State} {e : Event} (h : Inv s) (hr : s.init = true) (he : e.isConfig = false)
    (hl : e.legal s.cfg) : Inv (logEvent e s) where
  silent := fun hu => by simp [hr] at hu
  configFirst := configFirst_append_singleton h.configFirst (.inl (evlog_ne_nil_of_inv h hr))
  current := fun _ => by
    rw [logEvent_evlog, latestConfig_append_singleton, configAfter_of_not_isConfig he, logEvent_tcfg, h.current hr]
  legal := legal_append_singleton h.legal hl

theorem inv_emit {s : State} (h : Inv s) (hr : s.init = true) (cmd : Byte) (ps : Params) : Inv (emit cmd ps s) :=
  inv_logEvent h hr rfl ⟨cmd, ps, frameOf_eq_template _ _ _⟩

theorem inv_delay {s : State} {ms : Nat} (h : Inv s) (hr : s.init = true)
    (hms : ms = tInitMs s.cfg ∨ ms = tSelMs s.cfg) : Inv (delay ms s) :=
  inv_logEvent h hr rfl hms

/-- Init up to its delay: TCFG and the `CFG` element appended carry the same three values (R62, R150). -/
theorem inv_txConfig_setInit_setTcfg {s : State} (h : Inv s) (tx rx : Pin) (baud : Baud) :
    Inv (txConfig tx rx baud (setInit (setTcfg tx rx baud s))) where
  silent := fun hu => nomatch hu
  configFirst := configFirst_append_singleton h.configFirst (.inr rfl)
  current := fun _ => latestConfig_append_singleton s.evlog (.config tx rx baud)
  legal := legal_append_singleton h.legal trivial

theorem effect_keeps_inv {i : Instr} {s t : State} (h : Inv s) (he : Effect i s t) : Inv t := by
  cases he with
  | none => exact h
  | reply f => exact inv_reply h f
  | init tx rx baud hi => exact inv_delay (inv_txConfig_setInit_setTcfg h tx rx baud) rfl (.inl rfl)
  | write hr cmd ps => exact inv_emit h hr cmd ps
  | select hr hi cmd ps => exact inv_delay (inv_emit h hr cmd ps) hr (.inr rfl)
  | toggle hr hi cmd ps => exact inv_setPaused (inv_emit h hr cmd ps) hr _

/-- Settles O41: a step is one effect on the state with fewer words presented, and each of the six keeps `Inv`. -/
theorem stepKeepsTheInvariant : Obligations.StepKeepsTheInvariant := by
  unfold Obligations.StepKeepsTheInvariant
  intro s t h hstep
  obtain ⟨i, rest, he⟩ := step_effect hstep
  exact effect_keeps_inv (inv_withPending h rest) he

end Sys2Proof.Machine
end

section
/-! Reset (R34, R181) and the layout of TCFG (R24). -/

namespace Sys2Proof.Machine

/-- Settles O13: the table of R34, field by field. -/
theorem resetLeavesUninitialized : Obligations.ResetLeavesUninitialized := by
  unfold Obligations.ResetLeavesUninitialized
  exact ⟨fun c => ⟨resetWith_init c, resetWith_paused c, resetWith_tcfg c, resetWith_evlog c, resetWith_cfg c⟩, rfl⟩

/-- An append puts its first word above all bits of its second. -/
theorem toNat_append_eq_add {v w : Nat} (x : BitVec v) (y : BitVec w) :
    (x ++ y).toNat = 2 ^ w * x.toNat + y.toNat := by
  rw [BitVec.toNat_append, ← Nat.shiftLeft_add_eq_or_of_lt y.isLt, Nat.shiftLeft_eq, Nat.mul_comm]

/-- Settles O14, by the place each field has in the two appends. -/
theorem tcfgLayout : Obligations.TcfgLayout := by
  unfold Obligations.TcfgLayout
  intro t
  rw [tcfgWord, toNat_append_eq_add, toNat_append_eq_add]
  omega

end Sys2Proof.Machine
end

section
/-! A step with a word presented (R56), and the reading of a table word, which needs no configuration: the only words
whose decoding asks for one are frames put on the wire, and a table word is put there only when it is no frame. -/

namespace Sys2Proof.Machine

theorem step_of_decode_ok {s : State} {p : PortWord} {rest : List PortWord} {i : Instr}
    (hp : s.pending = p :: rest) (hd : decode s.cfg p = .ok i) : step s = exec i { s with pending := rest } := by
  simp only [step, hp, hd]

theorem step_of_decode_error {s : State} {p : PortWord} {rest : List PortWord} {e : DecodeError}
    (hp : s.pending = p :: rest) (hd : decode s.cfg p = .error e) : step s = .refused (.undecodable e) := by
  simp only [step, hp, hd]

theorem decode_wire_of_parseFrame_error {f : List Byte} {e : DecodeError} (h : parseFrame f = .error e) (c : Cfg) :
    decode c (.wire f) = .error e := by
  simp only [decode, decodeWire, h]

/-- Every configuration reads a table word alike. -/
theorem decode_tableWord_eq (c c' : Cfg) (nbits w : Nat) :
    decode c (tableWord nbits w) = decode c' (tableWord nbits w) := by
  unfold tableWord
  split
  · rfl
  · dsimp only
    split
    · rfl
    · rfl
    · next e he => rw [decode_wire_of_parseFrame_error he c, decode_wire_of_parseFrame_error he c']

theorem decodeTableWord_eq_some {nbits w : Nat} {i : Instr} (h : decodeTableWord nbits w = some i) (c : Cfg) :
    decode c (tableWord nbits w) = .ok i := by
  rw [decode_tableWord_eq c Config.strap]
  unfold decodeTableWord at h
  split at h
  · next hd => cases h; exact hd
  · cases h

theorem decodeTableWord_eq_none {nbits w : Nat} (h : decodeTableWord nbits w = none) (c : Cfg) :
    ∃ e, decode c (tableWord nbits w) = .error e := by
  rw [decode_tableWord_eq c Config.strap]
  unfold decodeTableWord at h
  split at h
  · cases h
  · next e hd => exact ⟨e, hd⟩

/-- Settles O11: the word stands at the head of the list, and the state's own configuration reads it as
`decodeTableWord` does. -/
theorem fetchWordRunsNext : Obligations.FetchWordRunsNext := by
  unfold Obligations.FetchWordRunsNext
  intro s nbits w
  have hp : (s.withFetchWord nbits w).pending = tableWord nbits w :: s.pending := rfl
  constructor
  · intro i hi
    exact step_of_decode_ok hp (decodeTableWord_eq_some hi s.cfg)
  · intro hn
    obtain ⟨e, he⟩ := decodeTableWord_eq_none hn s.cfg
    exact ⟨e, step_of_decode_error hp he⟩

end Sys2Proof.Machine
end

section
/-! Runs of request words: each is answered, and in Ready each inverts PAUSED or keeps it, as its selector says
(R23, R127, R191). -/

namespace Sys2Proof.Machine

/-! ### One request word -/

/-- Every instruction of the command port answers: no list and no wire bytes can be refused there (R87, R160). -/
theorem exec_answers_on_command_port {i : Instr} (hi : i.port = .command) (s : State) : ∃ t, exec i s = .next t := by
  cases i
  case init | selectDevice | setVolume | playByIndex | playInFolder | playFromNamedFolder | setEqualizer
      | setPlayMode | pauseResume | stop | next | prev | reserved => exact ⟨_, rfl⟩
  all_goals cases hi

theorem port_decodeRequest (q : Request) : (decodeRequest q).port = .command := by
  unfold decodeRequest
  split <;> rfl

theorem decodeRequest_eq_pauseResume_iff (q : Request) :
    decodeRequest q = .pauseResume ↔ togglesPaused q = true := by
  constructor
  · intro h
    unfold decodeRequest at h
    split at h
    case h_9 h9 => exact beq_iff_eq.mpr (BitVec.eq_of_toNat_eq h9)
    all_goals cases h
  · intro h
    have h9 : opField q = 0x09#8 := beq_iff_eq.mp h
    simp [decodeRequest, h9]

@[simp] theorem withRequests_init (s : State) (qs : List Request) : (withRequests s qs).init = s.init := rfl

@[simp] theorem withRequests_paused (s : State) (qs : List Request) : (withRequests s qs).paused = s.paused := rfl

/-- A step with request words presented carries out the operation of the first and leaves the others. -/
theorem step_withRequests_cons (s : State) (q : Request) (qs : List Request) :
    step (withRequests s (q :: qs)) = exec (decodeRequest q) (withRequests s qs) :=
  step_of_decode_ok (p := .command q) rfl rfl

theorem withRequests_eq_self {s : State} {qs : List Request} (h : s.pending = qs.map .command) :
    withRequests s qs = s := by
  rw [withRequests, ← h]

/-! ### PAUSED -/

theorem exec_pauseResume_paused {s t : State} (hr : s.init = true) (h : exec .pauseResume s = .next t) :
    t.paused = !s.paused := by
  simp only [exec, execPauseResume, guarded_of_ready hr, Host.Outcome.next.injEq] at h
  subst h
  cases hp : s.paused <;> rfl

/-- In Ready pauseResume inverts PAUSED and every other instruction keeps it. -/
theorem exec_paused {i : Instr} {s t : State} (hr : s.init = true) (h : exec i s = .next t) :
    t.paused = (s.paused ^^ decide (i = .pauseResume)) := by
  by_cases hi : i = .pauseResume
  · subst hi
    simpa using exec_pauseResume_paused hr h
  · simpa [hi] using effect_paused (exec_effect h) hi

/-- One request in Ready: the step answers, stays in Ready, leaves the other requests, and inverts PAUSED exactly for
pauseResume. -/
theorem step_request_of_ready {s : State} (hr : s.init = true) (q : Request) (qs : List Request) :
    ∃ t, step (withRequests s (q :: qs)) = .next (withRequests t qs) ∧ t.init = true ∧
      t.paused = (s.paused ^^ togglesPaused q) := by
  have hr' : (withRequests s qs).init = true := (withRequests_init s qs).trans hr
  obtain ⟨t, ht⟩ := exec_answers_on_command_port (port_decodeRequest q) (withRequests s qs)
  have he := exec_effect ht
  refine ⟨t, ?_, effect_keeps_ready he hr', ?_⟩
  · rw [step_withRequests_cons, ht, withRequests_eq_self (effect_pending he)]
  · have hp := exec_paused hr' ht
    simpa [decodeRequest_eq_pauseResume_iff] using hp

theorem odd_countP_cons {α : Type} (p : α → Bool) (a : α) (l : List α) :
    decide ((a :: l).countP p % 2 = 1) = (p a ^^ decide (l.countP p % 2 = 1)) := by
  cases ha : p a
  · simp [ha]
  · obtain h | h := Nat.mod_two_eq_zero_or_one (l.countP p) <;> simp [ha, h, Nat.add_mod]

/-- Settles O46, by induction on the requests: the first inverts PAUSED or keeps it, and adds as much to the parity. -/
theorem pausedFollowsTheToggles : Obligations.PausedFollowsTheToggles := by
  unfold Obligations.PausedFollowsTheToggles
  intro qs
  induction qs with
  | nil => exact fun s _ => ⟨withRequests s [], rfl, by simp [withRequests]⟩
  | cons q qs ih =>
    intro s hr
    obtain ⟨u, hstep, hru, hpu⟩ := step_request_of_ready hr q qs
    obtain ⟨t, hrun, hpt⟩ := ih u hru
    refine ⟨t, (run_succ _ _ _).mpr ⟨_, hstep, hrun⟩, ?_⟩
    rw [hpt, hpu, odd_countP_cons, Bool.xor_assoc]

end Sys2Proof.Machine
end

section
/-! TCFG cannot be observed (R24, R34). An instruction other than init carries whatever TCFG holds along, unread;
init overwrites it, unread. -/

namespace Sys2Proof.Machine

/-- The state with another content of TCFG. -/
def withTcfg (x : TransportConfig) (s : State) : State := { s with tcfg := x }

@[simp] theorem withTcfg_init (x : TransportConfig) (s : State) : (withTcfg x s).init = s.init := rfl

@[simp] theorem withTcfg_cfg (x : TransportConfig) (s : State) : (withTcfg x s).cfg = s.cfg := rfl

theorem txWrite_withTcfg (f : List Byte) (x : TransportConfig) (s : State) :
    txWrite f (withTcfg x s) = withTcfg x (txWrite f s) := rfl

theorem guarded_withTcfg {op : State → State} {x : TransportConfig} {s : State}
    (hop : ∀ u, op (withTcfg x u) = withTcfg x (op u)) : guarded (withTcfg x s) op = withTcfg x (guarded s op) := by
  cases hi : s.init
  · rw [guarded_of_uninit hi, guarded_of_uninit (s := withTcfg x s) hi]
  · rw [guarded_of_ready hi, guarded_of_ready (s := withTcfg x s) hi, hop]

theorem wireCommand_withTcfg (v : Variant) (k : Key) (ps : Params) (x : TransportConfig) (s : State) :
    wireCommand v k ps (withTcfg x s) = withTcfg x (wireCommand v k ps s) := by
  unfold wireCommand
  rw [withTcfg_init, withTcfg_cfg, txWrite_withTcfg, apply_ite (withTcfg x)]

/-- An instruction other than init neither reads nor writes TCFG. -/
theorem exec_withTcfg_of_not_init {i : Instr} {s t : State} (hi : isInit i = false) (x : TransportConfig)
    (h : exec i s = .next t) : exec i (withTcfg x s) = .next (withTcfg x t) := by
  cases i
  case init => cases hi
  case reserved | buildC => cases h; rfl
  case buildS cmd ps =>
    simp only [exec, execBuildS] at h ⊢
    split at h
    · next hf => cases h; exact if_pos hf
    · cases h
  case pauseResume =>
    cases h
    refine congrArg Host.Outcome.next (guarded_withTcfg fun u => ?_)
    obtain ⟨_, _, paused, _, _, _, _⟩ := u
    cases paused <;> rfl
  case selectDevice | setVolume | playByIndex | playInFolder | playFromNamedFolder | setEqualizer | setPlayMode
      | stop | next | prev => cases h; exact congrArg Host.Outcome.next (guarded_withTcfg fun _ => rfl)
  all_goals
    cases h
    exact congrArg Host.Outcome.next (wireCommand_withTcfg _ _ _ _ _)

/-- Init answers the same whatever TCFG held. -/
theorem exec_init_withTcfg (tx rx : Pin) (baud : Baud) (x : TransportConfig) (s : State) :
    exec (.init tx rx baud) (withTcfg x s) = exec (.init tx rx baud) s := rfl

theorem exec_withTcfg {i : Instr} {s t : State} (x : TransportConfig) (h : exec i s = .next t) :
    ∃ y, exec i (withTcfg x s) = .next (withTcfg y t) := by
  cases hi : isInit i
  · exact ⟨x, exec_withTcfg_of_not_init hi x h⟩
  · cases i
    case init tx rx baud => exact ⟨t.tcfg, (exec_init_withTcfg tx rx baud x s).trans h⟩
    all_goals cases hi

theorem step_withTcfg {s t : State} (x : TransportConfig) (h : step s = .next t) :
    ∃ y, step (withTcfg x s) = .next (withTcfg y t) := by
  obtain ⟨hp, rfl⟩ | ⟨p, rest, i, hp, hd, he⟩ := step_cases h
  · exact ⟨x, by simp only [step, withTcfg, hp]⟩
  · obtain ⟨y, hy⟩ := exec_withTcfg x he
    exact ⟨y, (step_of_decode_ok (s := withTcfg x s) hp hd).trans hy⟩

theorem run_withTcfg (k : Nat) {s t : State} (x : TransportConfig) (h : run k s = .next t) :
    ∃ y, run k (withTcfg x s) = .next (withTcfg y t) := by
  induction k generalizing s x with
  | zero => cases h; exact ⟨x, rfl⟩
  | succ k ih =>
    obtain ⟨u, hstep, hrun⟩ := (run_succ k s t).mp h
    obtain ⟨y, hy⟩ := step_withTcfg x hstep
    obtain ⟨z, hz⟩ := ih y hrun
    exact ⟨z, (run_succ k _ _).mpr ⟨_, hy, hz⟩⟩

/-- Settles O49, by induction on the steps: each goes the same way whatever TCFG holds. -/
theorem tcfgIsUnobservable : Obligations.TcfgIsUnobservable := by
  unfold Obligations.TcfgIsUnobservable
  intro k s t x h
  exact run_withTcfg k x h

end Sys2Proof.Machine
end

section
/-! Runs of request words, each carried out whole (R56): a run ends, and what it ends with is what its requests did one
after another. In Ready a request with selector 0x02 to 0x0C writes one frame and any other none (R55); the
configuration an init sets stays in force until the next (R62). -/

namespace Sys2Proof.Machine

/-- Settles O1: `step` takes the word off the list and runs what it decodes to. -/
theorem stepRunsTheDecodedInstruction : Obligations.StepRunsTheDecodedInstruction := by
  unfold Obligations.StepRunsTheDecodedInstruction
  intro s p rest i hp hd
  exact step_of_decode_ok hp hd

/-- The induction over a run of requests: what is due of the requests left, kept by each of them, is due of none at
the end. -/
theorem run_requests_keeps {P : List Request → State → Prop}
    (hkeep : ∀ q qs s t, P (q :: qs) s → exec (decodeRequest q) (withRequests s qs) = .next t → P qs t) :
    ∀ (qs : List Request) (s : State), s.pending = qs.map .command → P qs s →
      ∃ t, run qs.length s = .next t ∧ t.pending = [] ∧ P [] t := by
  intro qs
  induction qs with
  | nil => exact fun s hp h => ⟨s, rfl, hp, h⟩
  | cons q qs ih =>
    intro s hp h
    have hstep : step s = exec (decodeRequest q) (withRequests s qs) := step_of_decode_ok hp rfl
    obtain ⟨u, hu⟩ := exec_answers_on_command_port (port_decodeRequest q) (withRequests s qs)
    obtain ⟨t, hrun, hend⟩ := ih u (effect_pending (exec_effect hu)) (hkeep q qs s u h hu)
    exact ⟨t, (run_succ _ _ _).mpr ⟨u, hstep.trans hu, hrun⟩, hend⟩

@[simp] theorem withRequests_evlog (s : State) (qs : List Request) : (withRequests s qs).evlog = s.evlog := rfl

/-! ### Frames written in Ready -/

/-- The selectors 0x02 to 0x0C are those of the operations that begin with the guard (R77, R120). -/
theorem isGuarded_decodeRequest (q : Request) : isGuarded (decodeRequest q) = writesFrame q := by
  unfold decodeRequest writesFrame
  split
  case h_13 =>
    simp only [imp_false] at *
    exact (decide_eq_false (by omega)).symm
  all_goals next hop => simp [isGuarded, hop]

/-- In Ready each operation of the command port that begins with the guard writes one frame, and init and a reserved
selector write none. -/
theorem exec_countP_isTx {i : Instr} {s t : State} (hi : i.port = .command) (hr : s.init = true)
    (h : exec i s = .next t) :
    t.evlog.countP Event.isTx = s.evlog.countP Event.isTx + (isGuarded i).toNat := by
  cases i
  case reserved => cases h; rfl
  case init => cases h; simp [Event.isTx, isGuarded]
  case pauseResume =>
    cases h
    rw [guarded_of_ready hr]
    split <;> simp [Event.isTx, isGuarded]
  case selectDevice | setVolume | playByIndex | playInFolder | playFromNamedFolder | setEqualizer | setPlayMode
      | stop | next | prev =>
    cases h
    simp [guarded_of_ready hr, List.countP_cons, Event.isTx, isGuarded]
  all_goals cases hi

/-- In Ready, with the requests `qs` left: the frames written and those still to be written are `n` together. -/
structure FramesDue (n : Nat) (qs : List Request) (s : State) : Prop where
  /-- Ready is never left (R35 (a)) -/
  ready : s.init = true
  /-- none is lost and none added -/
  count : s.evlog.countP Event.isTx + qs.countP writesFrame = n

theorem framesDue_exec {n : Nat} {q : Request} {qs : List Request} {s t : State} (h : FramesDue n (q :: qs) s)
    (he : exec (decodeRequest q) (withRequests s qs) = .next t) : FramesDue n qs t where
  ready := effect_keeps_ready (exec_effect he) h.ready
  count := by
    have hq : (q :: qs).countP writesFrame = qs.countP writesFrame + (writesFrame q).toNat := by
      cases hw : writesFrame q <;> simp [hw]
    have htx := exec_countP_isTx (s := withRequests s qs) (port_decodeRequest q) h.ready he
    have hn := h.count
    rw [isGuarded_decodeRequest, withRequests_evlog] at htx
    omega

/-- Settles O44: each request moves its frame, if it has one, from those due to those written. -/
theorem oneFrameForEachOperation : Obligations.OneFrameForEachOperation := by
  unfold Obligations.OneFrameForEachOperation
  intro qs s hr
  have hdue : FramesDue (s.evlog.countP Event.isTx + qs.countP writesFrame) qs (withRequests s qs) := ⟨hr, rfl⟩
  obtain ⟨t, hrun, hend, ht⟩ := run_requests_keeps (fun _ _ _ _ => framesDue_exec) qs _ rfl hdue
  exact ⟨t, hrun, hend, ht.count⟩

/-! ### The configuration in force -/

/-- Selector 0x01 alone names init (R77). -/
theorem opField_of_isInit_decodeRequest {q : Request} (h : isInit (decodeRequest q) = true) :
    opField q = 0x01#8 := by
  unfold decodeRequest at h
  split at h
  case h_1 h1 => exact BitVec.eq_of_toNat_eq h1
  all_goals cases h

/-- The request word of init carries its three identifiers (R77, R150). -/
theorem decodeRequest_init (tx rx : Pin) (baud : Baud) :
    decodeRequest (requestWord 0x01#8 baud (rx ++ tx)) = .init tx rx baud := by
  have htx : (rx ++ tx).extractLsb' 0 16 = tx := BitVec.extractLsb'_append_eq_right
  have hrx : (rx ++ tx).extractLsb' 16 16 = rx := BitVec.extractLsb'_append_eq_left
  simp [decodeRequest, htx, hrx]

/-- The block is in Ready with configuration `x`: TCFG and the latest `CFG` element hold it (R62). -/
structure InForce (x : TransportConfig) (s : State) : Prop where
  /-- in Ready -/
  ready : s.init = true
  /-- the register -/
  tcfg : s.tcfg = x
  /-- the log -/
  latest : latestConfig s.evlog = some x

theorem inForce_withRequests {x : TransportConfig} {s : State} (h : InForce x s) (qs : List Request) :
    InForce x (withRequests s qs) :=
  ⟨h.ready, h.tcfg, h.latest⟩

theorem inForce_logEvent {x : TransportConfig} {s : State} {e : Event} (h : InForce x s) (he : e.isConfig = false) :
    InForce x (logEvent e s) where
  ready := h.ready
  tcfg := h.tcfg
  latest := by rw [logEvent_evlog, latestConfig_append_singleton, configAfter_of_not_isConfig he, h.latest]

/-- After init, whatever was in force before. -/
theorem inForce_exec_init {tx rx : Pin} {baud : Baud} {s t : State} (h : exec (.init tx rx baud) s = .next t) :
    InForce ⟨tx, rx, baud⟩ t := by
  cases h
  have hcfg : InForce ⟨tx, rx, baud⟩ (txConfig tx rx baud (setInit (setTcfg tx rx baud s))) :=
    ⟨rfl, rfl, latestConfig_append_singleton s.evlog (.config tx rx baud)⟩
  exact inForce_logEvent hcfg rfl

/-- Every effect but that of init. -/
theorem inForce_effect {x : TransportConfig} {i : Instr} {s t : State} (h : InForce x s) (hi : isInit i = false)
    (he : Effect i s t) : InForce x t := by
  cases he with
  | none => exact h
  | reply f => exact ⟨h.ready, h.tcfg, h.latest⟩
  | init tx rx baud hinit => subst hinit; cases hi
  | write hr cmd ps => exact inForce_logEvent h rfl
  | select hr hsel cmd ps => exact inForce_logEvent (inForce_logEvent h rfl) rfl
  | toggle hr hp cmd ps =>
    have hw : InForce x (emit cmd ps s) := inForce_logEvent h rfl
    exact ⟨hw.ready, hw.tcfg, hw.latest⟩

/-- `x` is in force and no request left is an init. -/
structure StaysInForce (x : TransportConfig) (qs : List Request) (s : State) : Prop where
  /-- in force now -/
  now : InForce x s
  /-- and not overwritten by any request left -/
  noInit : ∀ q ∈ qs, opField q ≠ 0x01#8

theorem staysInForce_exec {x : TransportConfig} {q : Request} {qs : List Request} {s t : State}
    (h : StaysInForce x (q :: qs) s) (he : exec (decodeRequest q) (withRequests s qs) = .next t) :
    StaysInForce x qs t := by
  obtain ⟨hq, hqs⟩ := List.forall_mem_cons.mp h.noInit
  have hi : isInit (decodeRequest q) = false := Bool.eq_false_iff.mpr (mt opField_of_isInit_decodeRequest hq)
  exact ⟨inForce_effect (inForce_withRequests h.now qs) hi (exec_effect he), hqs⟩

/-- Settles O48: init puts its identifiers in force, and no request after it changes that. -/
theorem latestInitIsInForce : Obligations.LatestInitIsInForce := by
  unfold Obligations.LatestInitIsInForce
  intro qs s tx rx baud hqs
  obtain ⟨u, hu⟩ := exec_answers_on_command_port (i := .init tx rx baud) rfl (withRequests s qs)
  have hstep : step (withRequests s (requestWord 0x01#8 baud (rx ++ tx) :: qs)) = .next u := by
    rw [step_withRequests_cons, decodeRequest_init, hu]
  obtain ⟨t, hrun, -, ht⟩ := run_requests_keeps (fun _ _ _ _ => staysInForce_exec) qs u
    (effect_pending (exec_effect hu)) ⟨inForce_exec_init hu, hqs⟩
  obtain ⟨hready, htcfg, hlatest⟩ := ht.now
  exact ⟨t, (run_succ _ _ _).mpr ⟨u, hstep, hrun⟩, hready, htcfg, hlatest⟩

end Sys2Proof.Machine
end

section
/-! The command port's words (R76 to R79, R87): the operation a selector names, the fields by position, and the words
that decode to one instruction. -/

namespace Sys2Proof.Machine

/-! ### Decoding a host's word gives back the instruction -/

/-- A reserved selector (R87) names no operation. -/
theorem decodeRequest_of_reserved {q : Request} (h : reservedSelector (opField q) = true) :
    decodeRequest q = .reserved (opField q) := by
  have hop : (opField q).toNat = 0 ∨ 13 ≤ (opField q).toNat := by
    simpa [reservedSelector, BitVec.ule, ← BitVec.toNat_inj] using h
  unfold decodeRequest
  split
  case h_13 => rfl
  all_goals omega

/-- Settles O6: each operation's word holds its selector and, in A and B, its operands; a codec call is its operands. -/
theorem decodeEncodeOnTheHostPorts : Obligations.DecodeEncodeOnTheHostPorts := by
  unfold Obligations.DecodeEncodeOnTheHostPorts
  intro c i hwf hport
  cases i
  case init tx rx baud => exact congrArg Except.ok (decodeRequest_init tx rx baud)
  case reserved op =>
    have hres : reservedSelector (opField (requestWord op 0 0)) = true := by rwa [opField_requestWord]
    have hdec := decodeRequest_of_reserved hres
    rw [opField_requestWord] at hdec
    exact congrArg Except.ok hdec
  case buildC | buildS => rfl
  case selectDevice | setVolume | playByIndex | playInFolder | playFromNamedFolder | setEqualizer | setPlayMode
      | pauseResume | stop | next | prev => simp [encode, decode, decodeRequest]
  all_goals exact absurd rfl hport

/-! ### The fields by position -/

theorem aField_eq_ofNat (q : Request) : aField q = BitVec.ofNat 32 (q.toNat / 2 ^ 32) :=
  BitVec.eq_of_toNat_eq (aField_toNat q)

theorem bField_eq_ofNat (q : Request) : bField q = BitVec.ofNat 32 q.toNat :=
  BitVec.eq_of_toNat_eq (bField_toNat q)

theorem opField_eq_ofNat (q : Request) : opField q = BitVec.ofNat 8 (q.toNat / 2 ^ 64) := by
  rw [← opField_toNat, BitVec.ofNat_toNat, BitVec.setWidth_eq]

/-- TXPIN of an init word, B[15:0] (R77). -/
theorem bField_low (q : Request) : (bField q).extractLsb' 0 16 = BitVec.ofNat 16 q.toNat := by
  apply BitVec.eq_of_toNat_eq
  simp [BitVec.extractLsb'_toNat, bField_toNat]

/-- RXPIN of an init word, B[31:16] (R77). -/
theorem bField_high (q : Request) : (bField q).extractLsb' 16 16 = BitVec.ofNat 16 (q.toNat / 2 ^ 16) := by
  apply BitVec.eq_of_toNat_eq
  simp only [BitVec.extractLsb'_toNat, bField_toNat, Nat.shiftRight_eq_div_pow, BitVec.toNat_ofNat]
  omega

/-- Settles O3, one selector after the other. -/
theorem selectorNamesTheOperation : Obligations.SelectorNamesTheOperation := by
  unfold Obligations.SelectorNamesTheOperation
  intro c q
  dsimp only
  rw [← aField_eq_ofNat, ← bField_eq_ofNat, ← opField_eq_ofNat, ← bField_low, ← bField_high, ← opField_toNat]
  refine congrArg Except.ok ?_
  unfold decodeRequest
  split
  case h_13 => simp only [imp_false] at *; simp [*]
  all_goals next hop => simp [hop]

/-! ### Arguments are signed -/

/-- The signed reading of a 32-bit field: its low 31 bits, less 2^31 times its top bit (R78). -/
theorem toInt_eq_low_sub_sign (a : Arg) :
    a.toInt = ((a.toNat % 2 ^ 31 : Nat) : Int) - 2 ^ 31 * ((a.toNat / 2 ^ 31 : Nat) : Int) := by
  have := a.isLt
  rw [BitVec.toInt_eq_toNat_cond]
  split <;> omega

/-- Settles O4: the arguments are the fields A and B, read signed. -/
theorem argumentsAreTwosComplement : Obligations.ArgumentsAreTwosComplement := by
  unfold Obligations.ArgumentsAreTwosComplement
  intro c q
  dsimp only
  rw [← opField_toNat]
  intro h3 h8
  refine ⟨aField q, bField q, ?_, ?_, congrArg Except.ok ?_⟩
  · rw [toInt_eq_low_sub_sign, aField_toNat]
    omega
  · rw [toInt_eq_low_sub_sign, bField_toNat]
    omega
  · have hop : (opField q).toNat = 3 ∨ (opField q).toNat = 4 ∨ (opField q).toNat = 5 ∨ (opField q).toNat = 6 ∨
        (opField q).toNat = 7 ∨ (opField q).toNat = 8 := by omega
    obtain h | h | h | h | h | h := hop <;> simp [decodeRequest, h]

/-! ### Ignored fields -/

/-- `decodeRequest` reads no field that R77 marks ignored. -/
theorem decodeRequest_eq_of_agreeOnUsedFields {q q' : Request} (h : agreeOnUsedFields q q') :
    decodeRequest q = decodeRequest q' := by
  obtain ⟨hop, ha, hb⟩ := h
  unfold decodeRequest
  rw [← hop]
  split
  case h_1 h1 => rw [ha (.inl h1), hb (.inl h1)]
  case h_5 h5 => rw [ha (.inr (by omega)), hb (.inr h5)]
  case h_3 | h_4 | h_6 | h_7 | h_8 => rw [ha (.inr (by omega))]
  all_goals rfl

/-- Settles O5: the two words decode to one instruction. -/
theorem ignoredFieldsHaveNoEffect : Obligations.IgnoredFieldsHaveNoEffect := by
  unfold Obligations.IgnoredFieldsHaveNoEffect
  intro s q q' h
  rw [step_of_decode_ok (p := .command q) rfl rfl, step_of_decode_ok (p := .command q') rfl rfl,
    decodeRequest_eq_of_agreeOnUsedFields h]

end Sys2Proof.Machine
end

section
/-! Frames read and written (R71, R72, R74, R103, R104): each reader accepts exactly what its builder gives, so the
frame reader reads back the opcode and the parameters of every frame that EMIT builds. -/

namespace Sys2Proof.Machine

/-! ### The bytes of the two builders -/

/-- Settles O17: the closed form of the checksum, with the constant bytes of the sum written out. -/
theorem buildChecksummedFrameBytes : Obligations.BuildChecksummedFrameBytes := by
  unfold Obligations.BuildChecksummedFrameBytes
  intro cmd dh dl
  have hx : 0xFFFF - (0xFF + 0x06 + cmd.toNat + dh.toNat + dl.toNat) = 0xFEFA - (cmd.toNat + dh.toNat + dl.toNat) := by
    omega
  have hlow : ckLo (cmd.toNat + dh.toNat + dl.toNat) = BitVec.ofNat 8 (0xFEFA - (cmd.toNat + dh.toNat + dl.toNat)) :=
    BitVec.eq_of_toNat_eq (by simp [ckLo])
  rw [hx, buildC, ckHigh_eq, ckLow_eq, hlow, ckHi]

/-- `buildS` with LEN as the natural number it is (R72, R104). -/
theorem buildS_eq (cmd : Byte) (ps : List Byte) :
    buildS cmd ps = 0x7E#8 :: BitVec.ofNat 8 (2 + ps.length) :: cmd :: (ps ++ [0x7E#8]) := by
  rw [buildS, byte_two_add]
  rfl

/-- Settles O18: LEN is the byte of 2 + N. -/
theorem buildSimpleFrameBytes : Obligations.BuildSimpleFrameBytes := by
  unfold Obligations.BuildSimpleFrameBytes
  intro cmd ps
  have hlen : (BitVec.ofNat 8 (2 + ps.length)).toNat = (2 + ps.length) % 256 := BitVec.toNat_ofNat _ _
  refine ⟨_, buildS_eq cmd ps, hlen, fun hle => by omega, ?_⟩
  simp only [buildS_eq, List.length_cons, List.length_append, List.length_nil]
  omega

/-! ### The readers -/

theorem parseC_buildC (cmd dh dl : Byte) : parseC (buildC cmd dh dl) = .ok (.C cmd dh dl) := by
  simp [buildC, parseC]

/-- What is read as format C is the BUILD_C frame of what is read (R71). -/
theorem eq_buildC_of_parseC {f : List Byte} {fr : Frame} (h : parseC f = .ok fr) :
    ∃ cmd dh dl, fr = .C cmd dh dl ∧ f = buildC cmd dh dl := by
  unfold parseC at h
  split at h
  · split at h
    · next hfix =>
      split at h
      · next hck =>
        cases h
        obtain ⟨rfl, rfl, rfl, rfl, rfl⟩ := hfix
        obtain ⟨rfl, rfl⟩ := hck
        exact ⟨_, _, _, rfl, rfl⟩
      · cases h
    · cases h
  · cases h

theorem parseS_buildS (cmd : Byte) {ps : List Byte} (hps : ps.length ≤ 253) :
    parseS (buildS cmd ps) = .ok (.S cmd ps) := by
  have hlen : (2 + ps.length) % 256 = ps.length + 1 + 1 := by omega
  simp [buildS_eq, parseS, hlen]

/-- What is read as format S is the BUILD_S frame of what is read, LEN not having wrapped (R72, R108). -/
theorem eq_buildS_of_parseS {f : List Byte} {fr : Frame} (h : parseS f = .ok fr) :
    ∃ cmd ps, fr = .S cmd ps ∧ f = buildS cmd ps ∧ ps.length ≤ 253 := by
  unfold parseS at h
  split at h
  · next b0 len cmd rest =>
    split at h
    · next hfix =>
      cases h
      obtain ⟨rfl, hlast, hlen⟩ := hfix
      obtain ⟨ps, rfl⟩ := List.getLast?_eq_some_iff.mp hlast
      rw [List.length_append, List.length_singleton] at hlen
      have hlt := len.isLt
      have hlen' : len = BitVec.ofNat 8 (2 + ps.length) := by
        apply BitVec.eq_of_toNat_eq
        rw [BitVec.toNat_ofNat]
        omega
      exact ⟨cmd, ps, by rw [List.dropLast_concat], by rw [buildS_eq, hlen'], by omega⟩
    · cases h
  · cases h

/-- VER of format C, read as LEN of format S, asks for 253 parameters, where the frame has six bytes left (R74). -/
theorem parseS_buildC (cmd dh dl : Byte) : parseS (buildC cmd dh dl) = .error .notAFrame := by
  simp [buildC, parseS]

theorem parseFrame_of_parseS_ok {f : List Byte} {fr : Frame} (h : parseS f = .ok fr) : parseFrame f = .ok fr := by
  simp only [parseFrame, h]

theorem parseFrame_of_parseS_error {f : List Byte} {e : DecodeError} (h : parseS f = .error e) :
    parseFrame f = parseC f := by
  simp only [parseFrame, h]

@[simp] theorem parseFrame_buildC (cmd dh dl : Byte) : parseFrame (buildC cmd dh dl) = .ok (.C cmd dh dl) := by
  rw [parseFrame_of_parseS_error (parseS_buildC cmd dh dl), parseC_buildC]

theorem parseFrame_buildS (cmd : Byte) {ps : List Byte} (hps : ps.length ≤ 253) :
    parseFrame (buildS cmd ps) = .ok (.S cmd ps) :=
  parseFrame_of_parseS_ok (parseS_buildS cmd hps)

/-- A frame comes from one reader or the other. -/
theorem parse_of_parseFrame {f : List Byte} {fr : Frame} (h : parseFrame f = .ok fr) :
    parseS f = .ok fr ∨ parseC f = .ok fr := by
  cases hs : parseS f with
  | ok fr' => exact .inl ((parseFrame_of_parseS_ok hs).symm.trans h)
  | error e => exact .inr ((parseFrame_of_parseS_error hs).symm.trans h)

theorem eq_buildC_of_parseFrame {f : List Byte} {cmd dh dl : Byte} (h : parseFrame f = .ok (.C cmd dh dl)) :
    f = buildC cmd dh dl := by
  obtain hs | hc := parse_of_parseFrame h
  · obtain ⟨_, _, hfr, -⟩ := eq_buildS_of_parseS hs
    cases hfr
  · obtain ⟨_, _, _, hfr, hf⟩ := eq_buildC_of_parseC hc
    cases hfr
    exact hf

theorem eq_buildS_of_parseFrame {f : List Byte} {cmd : Byte} {ps : List Byte} (h : parseFrame f = .ok (.S cmd ps)) :
    f = buildS cmd ps ∧ ps.length ≤ 253 := by
  obtain hs | hc := parse_of_parseFrame h
  · obtain ⟨_, _, hfr, hf⟩ := eq_buildS_of_parseS hs
    cases hfr
    exact hf
  · obtain ⟨_, _, _, hfr, -⟩ := eq_buildC_of_parseC hc
    cases hfr

/-- Settles O8: what is read determines the bytes, and each builder's bytes are read back. -/
theorem framesAreReadExactly : Obligations.FramesAreReadExactly := by
  unfold Obligations.FramesAreReadExactly
  intro f
  constructor
  · intro cmd dh dl
    exact ⟨eq_buildC_of_parseFrame, fun hf => hf ▸ parseFrame_buildC cmd dh dl⟩
  · intro cmd ps
    exact ⟨eq_buildS_of_parseFrame, fun ⟨hf, hps⟩ => hf ▸ parseFrame_buildS cmd hps⟩

/-! ### Words of the spec -/

/-- Settles O10, by evaluating the decoder on each of the nine words. -/
theorem specWordsDecode : Obligations.SpecWordsDecode := by
  unfold Obligations.SpecWordsDecode
  decide

end Sys2Proof.Machine
end

section
/-! The 28 wire commands by variant, key and parameters (R81, R84). `WireRow` is the table; the encoder, the two halves
of the decoder and `exec` are each read off it once, and a statement about all the rows is one about a row. -/

namespace Sys2Proof.Machine

/-- The row of R84's table that wire command `i` stands in: its variant, its key and the parameters its frame carries. -/
inductive WireRow (c : Cfg) : Instr → Variant → Key → Params → Prop where
  | cSelectDevice : WireRow c .cSelectDevice .C .selectDevice (.one (selParam c .C))
  | cSetVolume (level : Byte) : WireRow c (.cSetVolume level) .C .setVolume (.one level)
  | cPlayIndex (hi lo : Byte) : WireRow c (.cPlayIndex hi lo) .C .playIndex (.two hi lo)
  | cPlayMp3Folder (hi lo : Byte) : WireRow c (.cPlayMp3Folder hi lo) .C .playMp3Folder (.two hi lo)
  | cPlayFolderTrack (folder track : Byte) :
      WireRow c (.cPlayFolderTrack folder track) .C .playFolderTrack (.two folder track)
  | cStop : WireRow c .cStop .C .stop .none
  | cPause : WireRow c .cPause .C .pause .none
  | cResume : WireRow c .cResume .C .resume .none
  | cNext : WireRow c .cNext .C .next .none
  | cPrev : WireRow c .cPrev .C .prev .none
  | cSetEq (code : Byte) : WireRow c (.cSetEq code) .C .setEq (.one code)
  | cSetPlayMode (dh dl : Byte) : WireRow c (.cSetPlayMode dh dl) .C .setPlayMode (.two dh dl)
  | cLoopFolder (dh dl : Byte) : WireRow c (.cLoopFolder dh dl) .C .loopFolder (.two dh dl)
  | cShuffleFolder (dh dl : Byte) : WireRow c (.cShuffleFolder dh dl) .C .shuffleFolder (.two dh dl)
  | sSelectDevice : WireRow c .sSelectDevice .S .selectDevice (.one (selParam c .S))
  | sSetVolume (level : Byte) : WireRow c (.sSetVolume level) .S .setVolume (.one level)
  | sPlayIndex (hi lo : Byte) : WireRow c (.sPlayIndex hi lo) .S .playIndex (.two hi lo)
  | sPlayMp3Folder (hi lo : Byte) : WireRow c (.sPlayMp3Folder hi lo) .S .playMp3Folder (.two hi lo)
  | sPlayFolderTrack (folder track : Byte) :
      WireRow c (.sPlayFolderTrack folder track) .S .playFolderTrack (.two folder track)
  | sStop : WireRow c .sStop .S .stop .none
  | sPause : WireRow c .sPause .S .pause .none
  | sResume : WireRow c .sResume .S .resume .none
  | sNext : WireRow c .sNext .S .next .none
  | sPrev : WireRow c .sPrev .S .prev .none
  | sSetEq (code : Byte) : WireRow c (.sSetEq code) .S .setEq (.one code)
  | sSetPlayMode (ps : Params) : WireRow c (.sSetPlayMode ps) .S .setPlayMode ps
  | sLoopFolder (ps : Params) : WireRow c (.sLoopFolder ps) .S .loopFolder ps
  | sShuffleFolder (ps : Params) : WireRow c (.sShuffleFolder ps) .S .shuffleFolder ps

/-! ### What the model says of a row -/

theorem wireRow_of_port {i : Instr} (hi : i.port = .wire) (c : Cfg) : ∃ v k ps, WireRow c i v k ps := by
  cases i
  case init | selectDevice | setVolume | playByIndex | playInFolder | playFromNamedFolder | setEqualizer
      | setPlayMode | pauseResume | stop | next | prev | reserved | buildC | buildS => cases hi
  all_goals exact ⟨_, _, _, by constructor⟩

section
variable {c : Cfg} {i : Instr} {v : Variant} {k : Key} {ps : Params}

theorem encode_of_wireRow (h : WireRow c i v k ps) : encode c i = wireWord c v k ps := by
  cases h <;> rfl

theorem ofVariant_of_wireRow (h : WireRow c i v k ps) (v' : Variant) : ofVariant v' i = (v' == v) := by
  cases h <;> rfl

theorem exec_of_wireRow {s : State} (h : WireRow s.cfg i v k ps) : exec i s = .next (wireCommand v k ps s) := by
  cases h <;> rfl

theorem wireC_of_wireRow (h : WireRow c i .C k ps) : wireC c k (dataHigh ps) (dataLow ps) = some i := by
  cases h <;> simp [wireC, dataHigh, dataLow]

theorem wireS_of_wireRow (h : WireRow c i .S k ps) : wireS c k ps = some i := by
  cases h <;> simp [wireS]

/-- The format C half of the decoder names only rows of the table. -/
theorem wireRow_of_wireC {dh dl : Byte} (h : wireC c k dh dl = some i) :
    ∃ ps, WireRow c i .C k ps ∧ dataHigh ps = dh ∧ dataLow ps = dl := by
  cases k <;> simp only [wireC, Option.ite_none_right_eq_some, Option.some.injEq] at h
  case playIndex | playMp3Folder | playFolderTrack | setPlayMode | loopFolder | shuffleFolder =>
    subst h
    exact ⟨.two dh dl, by constructor, rfl, rfl⟩
  case setVolume | setEq =>
    obtain ⟨rfl, rfl⟩ := h
    exact ⟨.one dl, by constructor, rfl, rfl⟩
  case selectDevice | stop | pause | resume | next | prev =>
    obtain ⟨⟨rfl, rfl⟩, rfl⟩ := h
    exact ⟨_, by constructor, rfl, rfl⟩

/-- And so does the format S half. -/
theorem wireRow_of_wireS (h : wireS c k ps = some i) : WireRow c i .S k ps := by
  cases k <;> simp only [wireS, Option.ite_none_right_eq_some, Option.some.injEq] at h
  case setPlayMode | loopFolder | shuffleFolder =>
    subst h
    constructor
  case selectDevice | stop | pause | resume | next | prev =>
    obtain ⟨rfl, rfl⟩ := h
    constructor
  case setVolume | setEq | playIndex | playMp3Folder | playFolderTrack =>
    cases ps <;> cases h
    constructor

end

/-! ### The decoder of wire bytes -/

theorem decode_wire_eq_ok_iff {c : Cfg} {f : List Byte} {i : Instr} :
    decode c (.wire f) = .ok i ↔ ∃ fr, parseFrame f = .ok fr ∧ wireOfFrame c fr = some i := by
  cases hp : parseFrame f with
  | error e => simp [decode, decodeWire, hp]
  | ok fr => cases hw : wireOfFrame c fr <;> simp [decode, decodeWire, hp, hw]

theorem mem_allKeys (k : Key) : k ∈ allKeys := by
  cases k <;> decide

theorem paramsOfList_paramList (ps : Params) : paramsOfList (paramList ps) = some ps := by
  cases ps <;> rfl

theorem paramList_of_paramsOfList {bytes : List Byte} {ps : Params} (h : paramsOfList bytes = some ps) :
    paramList ps = bytes := by
  unfold paramsOfList at h
  split at h <;> cases h <;> rfl

theorem length_paramList_le (ps : Params) : (paramList ps).length ≤ 253 := by
  cases ps <;> simp [paramList]

/-- Whatever wire bytes decode to, the bytes are the frame of its row; so it is where two keys share an opcode byte
(R84). -/
theorem frame_of_decode_wire {c : Cfg} {f : List Byte} {i : Instr} (h : decode c (.wire f) = .ok i) :
    ∃ v k ps, WireRow c i v k ps ∧ f = frameOf v (opc c v k) ps := by
  obtain ⟨fr, hparse, hwire⟩ := decode_wire_eq_ok_iff.mp h
  cases fr with
  | C cmd dh dl =>
    obtain ⟨k, -, hkey⟩ := List.exists_of_findSome?_eq_some hwire
    obtain ⟨rfl, hk⟩ := Option.ite_none_right_eq_some.mp hkey
    obtain ⟨ps, hrow, rfl, rfl⟩ := wireRow_of_wireC hk
    exact ⟨.C, k, ps, hrow, eq_buildC_of_parseFrame hparse⟩
  | S cmd bytes =>
    simp only [wireOfFrame] at hwire
    split at hwire
    · next ps hps =>
      obtain ⟨k, -, hkey⟩ := List.exists_of_findSome?_eq_some hwire
      obtain ⟨rfl, hk⟩ := Option.ite_none_right_eq_some.mp hkey
      obtain rfl := paramList_of_paramsOfList hps
      exact ⟨.S, k, ps, wireRow_of_wireS hk, (eq_buildS_of_parseFrame hparse).1⟩
    · cases hwire

/-- The search for the entry with the image of `a` ends at `a`, when no two entries have one image. -/
theorem findSome?_of_nodup_map {α β γ : Type} [DecidableEq β] {f : α → β} {g : α → Option γ} {a : α} {b : γ}
    {l : List α} (hl : (l.map f).Nodup) (ha : a ∈ l) (hg : g a = some b) :
    (l.findSome? fun x => if f x = f a then g x else none) = some b := by
  induction l with
  | nil => cases ha
  | cons x l ih =>
    by_cases hx : f x = f a
    · obtain rfl := List.inj_on_of_nodup_map hl List.mem_cons_self ha hx
      simp [hg]
    · have hal : a ∈ l := (List.mem_cons.mp ha).resolve_left fun h => hx (h ▸ rfl)
      simp [hx, ih hl.of_cons hal]

/-- The frame of a row decodes to the row's command when no other key of the variant has its opcode byte. -/
theorem decode_frame_of_wireRow {c : Cfg} {i : Instr} {v : Variant} {k : Key} {ps : Params}
    (hd : opcodesDistinct c v) (h : WireRow c i v k ps) : decode c (.wire (frameOf v (opc c v k) ps)) = .ok i := by
  cases v with
  | C =>
    refine decode_wire_eq_ok_iff.mpr ⟨_, parseFrame_buildC _ _ _, ?_⟩
    rw [wireOfFrame]
    exact findSome?_of_nodup_map hd (mem_allKeys k) (wireC_of_wireRow h)
  | S =>
    refine decode_wire_eq_ok_iff.mpr ⟨_, parseFrame_buildS _ (length_paramList_le ps), ?_⟩
    rw [wireOfFrame, paramsOfList_paramList]
    exact findSome?_of_nodup_map hd (mem_allKeys k) (wireS_of_wireRow h)

/-- Settles O7: the row of the command is one of `v`, and the frame the encoder gives is that row's. -/
theorem decodeEncodeOnTheWire : Obligations.DecodeEncodeOnTheWire := by
  unfold Obligations.DecodeEncodeOnTheWire
  intro c v i hd hv hport
  obtain ⟨v', k, ps, hrow⟩ := wireRow_of_port hport c
  obtain rfl : v = v' := eq_of_beq ((ofVariant_of_wireRow hrow v).symm.trans hv)
  rw [encode_of_wireRow hrow]
  exact decode_frame_of_wireRow hd hrow

end Sys2Proof.Machine
end

section
/-! Arguments as bytes (R11, R12, R80): after clamping none loses a bit, and each operation's parameters are the bytes of
the nearest value in its range. -/

namespace Sys2Proof.Machine

theorem byte_toNat_of_mem {v : Int} (h0 : 0 ≤ v) (h1 : v ≤ 255) : ((byte v).toNat : Int) = v := by
  lift v to Nat using h0
  rw [byte_natCast, BitVec.toNat_ofNat]
  omega

theorem hi8_lo8_toNat_of_mem {v : Int} (h0 : 0 ≤ v) (h1 : v ≤ 65535) :
    (256 * (hi8 v).toNat + (lo8 v).toNat : Int) = v := by
  lift v to Nat using h0
  rw [hi8_natCast, lo8_natCast, BitVec.toNat_ofNat, BitVec.toNat_ofNat]
  omega

theorem volMax_mem (c : Cfg) : 0 ≤ volMax c ∧ volMax c ≤ 255 := by
  obtain h | h := volMax_eq_30_or_31 c <;> omega

theorem idxMax_mem (c : Cfg) : 1 ≤ idxMax c ∧ idxMax c ≤ 65535 := by
  obtain h | h | h := idxMax_eq_2999_or_3000_or_65535 c <;> omega

/-- Settles O36: every range of R80 lies within a byte, that of the index within two. -/
theorem clampedArgumentsFitTheirBytes : Obligations.ClampedArgumentsFitTheirBytes := by
  unfold Obligations.ClampedArgumentsFitTheirBytes
  intro c v
  have hvol := volMax_mem c
  have hidx := idxMax_mem c
  have hlevel := clamp_mem v.toInt hvol.1
  have hfolder := clamp_mem v.toInt (lo := 1) (hi := 99) (by decide)
  have htrack := clamp_mem v.toInt (lo := 1) (hi := 255) (by decide)
  have hindex := clamp_mem v.toInt hidx.1
  exact ⟨byte_toNat_of_mem (by omega) (by omega), byte_toNat_of_mem (by omega) (by omega),
    byte_toNat_of_mem (by omega) (by omega), hi8_lo8_toNat_of_mem (by omega) (by omega)⟩

/-- The parameter of setVolume, from the level clamped (R80). -/
theorem levelParams_of_nearest {c : Cfg} {level : Arg} {n : Nat} (h : NearestIn level.toInt 0 (volMax c) n) :
    levelParams c level = .one (BitVec.ofNat 8 n) := by
  rw [levelParams, clamp_of_nearest h (volMax_mem c).1, byte_natCast]

/-- The parameters of an index, from the index clamped (R80). -/
theorem indexParams_of_nearest {c : Cfg} {index : Arg} {n : Nat} (h : NearestIn index.toInt 1 (idxMax c) n) :
    indexParams c index = .two (BitVec.ofNat 8 (n / 256)) (BitVec.ofNat 8 n) := by
  simp only [indexParams, clamp_of_nearest h (idxMax_mem c).1, hi8_natCast, lo8_natCast]

/-- The parameters of playInFolder, from folder and track clamped (R80). -/
theorem folderTrackParams_of_nearest {folder track : Arg} {f r : Nat} (hf : NearestIn folder.toInt 1 99 f)
    (hr : NearestIn track.toInt 1 255 r) :
    folderTrackParams folder track = .two (BitVec.ofNat 8 f) (BitVec.ofNat 8 r) := by
  rw [folderTrackParams, clamp_of_nearest hf (by decide), clamp_of_nearest hr (by decide), byte_natCast, byte_natCast]

end Sys2Proof.Machine
end

section
/-! The 28 wire commands carried out alone, and each operation as the wire commands of its key (R84, column "emitted
by"; log 3). -/

namespace Sys2Proof.Machine

/-! ### One wire command -/

theorem wireCommand_of_ready {v : Variant} {s : State} (hr : s.init = true) (hv : s.cfg.variant = v) (k : Key)
    (ps : Params) : wireCommand v k ps s = txWrite (frameOf v (opc s.cfg v k) ps) s := by
  simp [wireCommand, hr, hv]

theorem wireCommand_of_silent {v : Variant} {s : State} (h : ¬ (s.init = true ∧ s.cfg.variant = v)) (k : Key)
    (ps : Params) : wireCommand v k ps s = s := by
  obtain ⟨hr, hv, -⟩ | ⟨-, heq⟩ := wireCommand_cases v k ps s
  · exact absurd ⟨hr, hv⟩ h
  · exact heq

/-- The two outcomes of a row of the table, its frame byte by byte (R71, R72, R74, R120). -/
theorem exec_wireRow_outcomes {s : State} {i : Instr} {v : Variant} {k : Key} {ps : Params}
    (h : WireRow s.cfg i v k ps) :
    (s.init = true → s.cfg.variant = v →
      exec i s = .next { s with evlog := s.evlog ++ [.tx (frameTemplate v (opc s.cfg v k) ps)] }) ∧
    (¬ (s.init = true ∧ s.cfg.variant = v) → exec i s = .next s) := by
  rw [exec_of_wireRow h]
  constructor
  · intro hr hv
    rw [wireCommand_of_ready hr hv, frameOf_eq_template]
    rfl
  · intro hn
    rw [wireCommand_of_silent hn]

/-- Settles O9: the bytes are the frame of a row, the straps are its variant, and that row's command writes it. -/
theorem decodedWireBytesAreTheBytesWritten : Obligations.DecodedWireBytesAreTheBytesWritten := by
  unfold Obligations.DecodedWireBytesAreTheBytesWritten
  intro s f i hdec hr hv
  obtain ⟨v, k, ps, hrow, rfl⟩ := frame_of_decode_wire hdec
  have hstrap : s.cfg.variant = v := eq_of_beq ((ofVariant_of_wireRow hrow _).symm.trans hv)
  rw [exec_of_wireRow hrow, wireCommand_of_ready hr hstrap]
  rfl

/-- Settles O37: each of the 14 is a format C row of the table. -/
theorem formatCCommandsWriteTheirFrame : Obligations.FormatCCommandsWriteTheirFrame := by
  unfold Obligations.FormatCCommandsWriteTheirFrame
  intro s x y i k ps h
  have hrow : WireRow s.cfg i .C k ps := by
    refine (List.forall_iff_forall_mem (p := fun r => WireRow s.cfg r.1 .C r.2.1 r.2.2)).mp ?_ _ h
    simp only [List.Forall]
    exact ⟨.cSelectDevice, .cSetVolume x, .cPlayIndex x y, .cPlayMp3Folder x y, .cPlayFolderTrack x y, .cStop, .cPause,
      .cResume, .cNext, .cPrev, .cSetEq x, .cSetPlayMode x y, .cLoopFolder x y, .cShuffleFolder x y⟩
  exact exec_wireRow_outcomes hrow

/-- Settles O38: each of the 14 is a format S row of the table. -/
theorem formatSCommandsWriteTheirFrame : Obligations.FormatSCommandsWriteTheirFrame := by
  unfold Obligations.FormatSCommandsWriteTheirFrame
  intro s x y zs i k ps h
  have hrow : WireRow s.cfg i .S k ps := by
    refine (List.forall_iff_forall_mem (p := fun r => WireRow s.cfg r.1 .S r.2.1 r.2.2)).mp ?_ _ h
    simp only [List.Forall]
    exact ⟨.sSelectDevice, .sSetVolume x, .sPlayIndex x y, .sPlayMp3Folder x y, .sPlayFolderTrack x y, .sStop, .sPause,
      .sResume, .sNext, .sPrev, .sSetEq x, .sSetPlayMode zs, .sLoopFolder zs, .sShuffleFolder zs⟩
  exact exec_wireRow_outcomes hrow

/-! ### An operation and the two wire commands of its key

The straps let exactly one of the two act, so together they write the frame of the variant. -/

/-- The parameters that go out where the format C command carries `psC` and the format S command `psS`. -/
def sentParams : Variant → Params → Params → Params
  | .C, psC, _ => psC
  | .S, _, psS => psS

@[simp] theorem sentParams_self (v : Variant) (ps : Params) : sentParams v ps ps = ps := by
  cases v <;> rfl

theorem sentParams_selParam (c : Cfg) (v : Variant) :
    sentParams v (.one (selParam c .C)) (.one (selParam c .S)) = .one (selParam c v) := by
  cases v <;> rfl

/-- Format C has both data bytes whatever the number of parameters (R81), so a format C command of two parameters
stands for an entry of any number. -/
theorem frameOf_sentParams_two (v : Variant) (cmd : Byte) (ps : Params) :
    frameOf v cmd (sentParams v (.two (dataHigh ps) (dataLow ps)) ps) = frameOf v cmd ps := by
  cases v <;> rfl

@[simp] theorem wireCommand_cfg (v : Variant) (k : Key) (ps : Params) (s : State) :
    (wireCommand v k ps s).cfg = s.cfg := by
  obtain ⟨-, -, h⟩ | ⟨-, h⟩ := wireCommand_cases v k ps s <;> rw [h]
  rfl

/-- The two wire commands of a key, one after the other, are the emission of that key (R105). -/
theorem wireCommand_S_wireCommand_C {s : State} (hr : s.init = true) (k : Key) (psC psS : Params) :
    wireCommand .S k psS (wireCommand .C k psC s) = emitKey k (sentParams s.cfg.variant psC psS) s := by
  cases hv : s.cfg.variant with
  | C =>
    have hS : ¬ ((wireCommand .C k psC s).init = true ∧ (wireCommand .C k psC s).cfg.variant = .S) := by
      simp [hv]
    rw [wireCommand_of_silent hS, wireCommand_of_ready hr hv, emitKey, emit, hv]
    rfl
  | S =>
    have hC : ¬ (s.init = true ∧ s.cfg.variant = .C) := by
      simp [hv]
    rw [wireCommand_of_silent hC, wireCommand_of_ready hr hv, emitKey, emit, hv]
    rfl

section
variable {s t : State} {ic is : Instr} {k : Key} {psC psS ps : Params}

/-- Carrying out the two rows of a key answers the emission of that key. -/
theorem exec_rows_iff (hr : s.init = true) (hC : WireRow s.cfg ic .C k psC) (hS : WireRow s.cfg is .S k psS)
    (u : State) :
    (∃ w, exec ic s = .next w ∧ exec is w = .next u) ↔ emitKey k (sentParams s.cfg.variant psC psS) s = u := by
  have hS' : WireRow (wireCommand .C k psC s).cfg is .S k psS := by rwa [wireCommand_cfg]
  rw [← wireCommand_S_wireCommand_C hr, exec_of_wireRow hC]
  simp [exec_of_wireRow hS']

/-- An operation in Ready that emits `k` and then does `rest` is its two rows and then `rest`. -/
theorem next_guarded_iff_rows_then {op : State → State} (rest : State → State) (hr : s.init = true)
    (hC : WireRow s.cfg ic .C k psC) (hS : WireRow s.cfg is .S k psS)
    (hop : op s = rest (emitKey k (sentParams s.cfg.variant psC psS) s)) :
    (Host.Outcome.next (guarded s op) : Host.Outcome State Fault Refusal) = .next t ↔
      ∃ w u, exec ic s = .next w ∧ exec is w = .next u ∧ t = rest u := by
  have hrows := exec_rows_iff hr hC hS
  rw [guarded_of_ready hr, hop, Host.Outcome.next.injEq]
  constructor
  · rintro rfl
    obtain ⟨w, hw, hu⟩ := (hrows _).mpr rfl
    exact ⟨w, _, hw, hu, rfl⟩
  · rintro ⟨w, u, hw, hu, rfl⟩
    rw [(hrows u).mp ⟨w, hw, hu⟩]

/-- An operation in Ready that only emits `k` is its two rows. -/
theorem next_guarded_iff_rows {op : State → State} (hr : s.init = true)
    (hC : WireRow s.cfg ic .C k psC) (hS : WireRow s.cfg is .S k psS)
    (hop : op s = emitKey k (sentParams s.cfg.variant psC psS) s) :
    (Host.Outcome.next (guarded s op) : Host.Outcome State Fault Refusal) = .next t ↔
      ∃ w, exec ic s = .next w ∧ exec is w = .next t := by
  rw [guarded_of_ready hr, hop, Host.Outcome.next.injEq, exec_rows_iff hr hC hS]

/-- setPlayMode is the two rows of whichever key its `PM_TABLE` entry has the opcode of (R86, R126). -/
theorem exec_setPlayMode_iff_rows {mode : Arg} (hr : s.init = true)
    (hpm : pmEntry s.cfg s.cfg.variant mode = ⟨opc s.cfg s.cfg.variant k, ps⟩)
    (hC : WireRow s.cfg ic .C k (.two (dataHigh ps) (dataLow ps))) (hS : WireRow s.cfg is .S k ps) :
    exec (.setPlayMode mode) s = .next t ↔ ∃ w, exec ic s = .next w ∧ exec is w = .next t :=
  next_guarded_iff_rows hr hC hS (by simp only [hpm, emitKey, emit, frameOf_sentParams_two])

end

/-- Settles O39: each operation emits one key, with the parameters its two rows carry. -/
theorem operationsEmitTheirWireCommands : Obligations.OperationsEmitTheirWireCommands := by
  unfold Obligations.OperationsEmitTheirWireCommands
  intro s t hr
  refine ⟨?_, ?_, ?_, ?_, ?_, ?_, ?_, ?_, ?_, ?_, ?_⟩
  · intro i ic is h
    simp only [List.mem_cons, Prod.mk.injEq, List.not_mem_nil, or_false] at h
    obtain ⟨rfl, rfl, rfl⟩ | ⟨rfl, rfl, rfl⟩ | ⟨rfl, rfl, rfl⟩ := h
    · exact next_guarded_iff_rows hr .cStop .sStop (by rw [sentParams_self])
    · exact next_guarded_iff_rows hr .cNext .sNext (by rw [sentParams_self])
    · exact next_guarded_iff_rows hr .cPrev .sPrev (by rw [sentParams_self])
  · intro level n h
    exact next_guarded_iff_rows hr (.cSetVolume _) (.sSetVolume _)
      (by rw [levelParams_of_nearest h, sentParams_self])
  · intro index n h
    exact ⟨next_guarded_iff_rows hr (.cPlayIndex _ _) (.sPlayIndex _ _)
        (by rw [indexParams_of_nearest h, sentParams_self]),
      next_guarded_iff_rows hr (.cPlayMp3Folder _ _) (.sPlayMp3Folder _ _)
        (by rw [indexParams_of_nearest h, sentParams_self])⟩
  · intro folder track f r hf ht
    exact next_guarded_iff_rows hr (.cPlayFolderTrack _ _) (.sPlayFolderTrack _ _)
      (by rw [folderTrackParams_of_nearest hf ht, sentParams_self])
  · intro mode
    exact next_guarded_iff_rows hr (.cSetEq _) (.sSetEq _) (by rw [sentParams_self])
  · intro mode ps hpm
    exact exec_setPlayMode_iff_rows hr hpm (.cSetPlayMode _ _) (.sSetPlayMode _)
  · intro mode ps hpm
    exact exec_setPlayMode_iff_rows hr hpm (.cLoopFolder _ _) (.sLoopFolder _)
  · intro mode ps hpm
    exact exec_setPlayMode_iff_rows hr hpm (.cShuffleFolder _ _) (.sShuffleFolder _)
  · intro hp
    exact next_guarded_iff_rows_then (setPaused true) hr .cPause .sPause (by simp [hp])
  · intro hp
    exact next_guarded_iff_rows_then (setPaused false) hr .cResume .sResume (by simp [hp])
  · exact next_guarded_iff_rows_then (delay (tSelMs s.cfg)) hr .cSelectDevice .sSelectDevice
      (by rw [sentParams_selParam])

end Sys2Proof.Machine
end

section
/-! The checksum of format C (R100 to R102, R106), the laws of the two builders (R109), and the codec port (R107,
R108). -/

namespace Sys2Proof.Machine

/-! ### The accumulator -/

/-- The accumulator adds fields in any order (R102). -/
theorem sumFields_perm {fs gs : List Byte} (h : fs.Perm gs) : sumFields fs = sumFields gs :=
  h.foldl_eq' (fun f _ g _ sum => add_right_comm sum (f.setWidth 16) (g.setWidth 16)) 0x0000#16

/-! ### The checksum and its two bytes -/

/-- Subtracting from all ones is complementing (R101, R102). -/
theorem ck16_eq_not (cmd dh dl : Byte) : ck16 cmd dh dl = ~~~ sum16 cmd dh dl :=
  BitVec.allOnes_sub_eq_not (sum16 cmd dh dl)

theorem xor_allOnes_eq_ck16 (cmd dh dl : Byte) : sum16 cmd dh dl ^^^ 0xFFFF#16 = ck16 cmd dh dl :=
  BitVec.xor_allOnes.trans (ck16_eq_not cmd dh dl).symm

/-- The receiver's equation of R109 (d), with the two checksum bytes as one number. -/
theorem ck16_toNat_add_sum16_toNat (cmd dh dl : Byte) : (ck16 cmd dh dl).toNat + (sum16 cmd dh dl).toNat = 0xFFFF := by
  rw [ck16_toNat, sum16_toNat]
  omega

theorem ckHigh_toNat (cmd dh dl : Byte) : (ckHigh cmd dh dl).toNat = (ck16 cmd dh dl).toNat / 256 := by
  have hck := (ck16 cmd dh dl).isLt
  rw [ckHigh, BitVec.toNat_setWidth, BitVec.toNat_ushiftRight, Nat.shiftRight_eq_div_pow]
  omega

theorem ckLow_toNat (cmd dh dl : Byte) : (ckLow cmd dh dl).toNat = (ck16 cmd dh dl).toNat % 256 :=
  BitVec.toNat_setWidth 8 (ck16 cmd dh dl)

theorem ckHigh_eq_hi8 (cmd dh dl : Byte) : ckHigh cmd dh dl = hi8 (ck16 cmd dh dl).toNat := by
  rw [hi8_natCast, ← ckHigh_toNat, BitVec.ofNat_toNat, BitVec.setWidth_eq]

theorem ckLow_eq_lo8 (cmd dh dl : Byte) : ckLow cmd dh dl = lo8 (ck16 cmd dh dl).toNat := by
  rw [lo8_natCast, BitVec.ofNat_toNat, ckLow]

/-- Settles O15: the modulus of the sum never acts, the subtraction is a complement, and addition commutes. -/
theorem checksumIsTheComplementedSum : Obligations.ChecksumIsTheComplementedSum := by
  unfold Obligations.ChecksumIsTheComplementedSum
  intro cmd dh dl
  have hsum := sum16_toNat cmd dh dl
  have hadd := ck16_toNat_add_sum16_toNat cmd dh dl
  have hmask (n : Nat) : n &&& 0xFF = n % 256 := Nat.and_two_pow_sub_one_eq_mod n 8
  refine ⟨by omega, by omega, ck16_eq_not cmd dh dl, hadd, ckHigh_eq_hi8 cmd dh dl, ckLow_eq_lo8 cmd dh dl, ?_, ?_, ?_⟩
  · rw [hmask, Nat.shiftRight_eq_div_pow, ckHigh_toNat]
    omega
  · rw [hmask, ckLow_toNat]
  · intro fs hfs
    rw [sumFields_perm hfs, ← sum16, xor_allOnes_eq_ck16]

/-- Settles O16: three bytes add at most 0x2FD to the constant 0x105, so the checksum lies in 0xFBFD to 0xFEFA. -/
theorem checksumRanges : Obligations.ChecksumRanges := by
  unfold Obligations.ChecksumRanges
  intro cmd dh dl
  have hsum := sum16_toNat cmd dh dl
  have hck := ck16_toNat cmd dh dl
  have hhigh := ckHigh_toNat cmd dh dl
  refine ⟨by omega, by omega, hck, ?_⟩
  simp only [← BitVec.toNat_inj, BitVec.toNat_ofNat]
  omega

/-! ### Laws of the builders -/

/-- The receiver's equation for the bytes of a frame (R109 (d)). -/
theorem checksum_of_drop_buildC {c h l f1 f2 f3 f4 f5 f6 f7 f8 : Byte}
    (hf : (buildC c h l).drop 1 = [f1, f2, f3, f4, f5, f6, f7, f8, 0xEF#8]) :
    256 * f7.toNat + f8.toNat + f1.toNat + f2.toNat + f3.toNat + f4.toNat + f5.toNat + f6.toNat = 0xFFFF := by
  simp only [buildC, List.drop_succ_cons, List.drop_zero, List.cons.injEq, and_true] at hf
  obtain ⟨rfl, rfl, rfl, rfl, rfl, rfl, rfl, rfl⟩ := hf
  have hhigh := ckHigh_toNat c h l
  have hlow := ckLow_toNat c h l
  have hsum := sum16_toNat c h l
  have hadd := ck16_toNat_add_sum16_toNat c h l
  simp only [BitVec.toNat_ofNat]
  omega

/-- A frame is read back as its three inputs, so it determines them. -/
theorem buildC_injective {c h l c' h' l' : Byte} (hf : buildC c h l = buildC c' h' l') : c = c' ∧ h = h' ∧ l = l' := by
  have hread := congrArg parseFrame hf
  rw [parseFrame_buildC, parseFrame_buildC] at hread
  cases hread
  exact ⟨rfl, rfl, rfl⟩

/-- CMD and the parameters stand at fixed places, so the frame determines them also where LEN wraps (R104). -/
theorem buildS_injective {c c' : Byte} {ps ps' : List Byte} (hf : buildS c ps = buildS c' ps') : c = c' ∧ ps = ps' := by
  rw [buildS_eq, buildS_eq] at hf
  obtain ⟨-, htail⟩ := List.cons.inj hf
  obtain ⟨-, hbody⟩ := List.cons.inj htail
  obtain ⟨hcmd, hps⟩ := List.cons.inj hbody
  exact ⟨hcmd, List.append_cancel_right hps⟩

theorem getLast?_buildS (c : Byte) (ps : List Byte) : (buildS c ps).getLast? = some 0x7E#8 :=
  List.getLast?_concat

theorem take_drop_buildS (c : Byte) (ps : List Byte) : ((buildS c ps).drop 3).take ps.length = ps :=
  List.take_left

/-- Settles O19: the fixed bytes by the frame's definition, LEN by O18, the rest by the laws above. -/
theorem codecLaws : Obligations.CodecLaws := by
  unfold Obligations.CodecLaws
  refine ⟨?_, ?_, fun _ _ _ _ _ _ => buildC_injective, fun _ _ _ _ => buildS_injective⟩
  · intro c h l
    exact ⟨rfl, ⟨rfl, rfl, rfl, rfl, rfl⟩, ⟨rfl, rfl, rfl⟩, fun _ _ _ _ _ _ _ _ => checksum_of_drop_buildC⟩
  · intro c ps
    obtain ⟨len, hframe, -, hlen, hlength⟩ := buildSimpleFrameBytes c ps
    refine ⟨hlength, fun hps => ⟨len, ?_, hlen hps⟩, rfl, getLast?_buildS c ps, rfl, take_drop_buildS c ps⟩
    rw [hframe]
    rfl

/-! ### The codec port -/

theorem exec_buildC (cmd dh dl : Byte) (s : State) : exec (.buildC cmd dh dl) s = .next (reply (buildC cmd dh dl) s) :=
  rfl

theorem exec_buildS_of_fits {s : State} {ps : List Byte} (h : ps.length ≤ nparamMax s.cfg) (cmd : Byte) :
    exec (.buildS cmd ps) s = .next (reply (buildS cmd ps) s) :=
  if_pos ((listFits_iff ps _).mpr h)

theorem exec_buildS_of_too_long {s : State} {ps : List Byte} (h : nparamMax s.cfg < ps.length) (cmd : Byte) :
    exec (.buildS cmd ps) s = .refused .listCannotBeFormed :=
  if_neg fun hfits => h.not_ge ((listFits_iff ps _).mp hfits)

/-- Settles O20: the port answers with what the builder gives, here byte by byte. -/
theorem codecPortAnswersTheFrame : Obligations.CodecPortAnswersTheFrame := by
  unfold Obligations.CodecPortAnswersTheFrame
  constructor
  · intro s cmd dh dl
    rw [exec_buildC, buildC, ckHigh_eq, ckLow_eq, reply]
  · intro s cmd ps hps
    rw [exec_buildS_of_fits hps, buildS_eq, reply]
    rfl

/-- Settles O21, by the bound `listFits` stands for. -/
theorem listsTooLongForThePortAreRefused : Obligations.ListsTooLongForThePortAreRefused := by
  unfold Obligations.ListsTooLongForThePortAreRefused
  intro s cmd ps h
  exact exec_buildS_of_too_long h cmd

end Sys2Proof.Machine
end

section
/-! Uninitialized (R120, R161): an operation that begins with the guard does nothing, and so a run of requests before
the first init does nothing. -/

namespace Sys2Proof.Machine

/-- In Uninitialized the guard turns the whole operation into nothing (R120). -/
theorem exec_of_isGuarded_of_uninit {i : Instr} {s : State} (hi : isGuarded i = true) (hu : s.init = false) :
    exec i s = .next s := by
  cases i
  case selectDevice | setVolume | playByIndex | playInFolder | playFromNamedFolder | setEqualizer | setPlayMode
      | pauseResume | stop | next | prev => exact congrArg Host.Outcome.next (guarded_of_uninit hu _)
  all_goals cases hi

/-- Settles O26, by the guard of each of the eleven. -/
theorem uninitializedOperationsDoNothing : Obligations.UninitializedOperationsDoNothing := by
  unfold Obligations.UninitializedOperationsDoNothing
  intro i s hi hu
  exact exec_of_isGuarded_of_uninit hi hu

/-- On the command port all but init are guarded or do nothing in either state (R77, R87). -/
theorem isGuarded_or_reserved_of_command_port {i : Instr} (hp : i.port = .command) (hi : isInit i = false) :
    isGuarded i = true ∨ ∃ op, i = .reserved op := by
  cases i
  case init => cases hi
  case reserved op => exact .inr ⟨op, rfl⟩
  case selectDevice | setVolume | playByIndex | playInFolder | playFromNamedFolder | setEqualizer | setPlayMode
      | pauseResume | stop | next | prev => exact .inl rfl
  all_goals cases hp

theorem exec_request_of_uninit {q : Request} {s : State} (hu : s.init = false) (hq : opField q ≠ 0x01#8) :
    exec (decodeRequest q) s = .next s := by
  have hi : isInit (decodeRequest q) = false := Bool.eq_false_iff.mpr (mt opField_of_isInit_decodeRequest hq)
  obtain hg | ⟨op, hop⟩ := isGuarded_or_reserved_of_command_port (port_decodeRequest q) hi
  · exact exec_of_isGuarded_of_uninit hg hu
  · rw [hop]
    rfl

/-- Settles O45, by induction on the requests: the first is taken off the list and nothing else happens. -/
theorem nothingHappensBeforeInit : Obligations.NothingHappensBeforeInit := by
  unfold Obligations.NothingHappensBeforeInit
  intro qs s hu hqs
  induction qs with
  | nil => rfl
  | cons q qs ih =>
    obtain ⟨hq, hrest⟩ := List.forall_mem_cons.mp hqs
    have hstep : step (withRequests s (q :: qs)) = .next (withRequests s qs) := by
      rw [step_withRequests_cons]
      exact exec_request_of_uninit hu hq
    exact (run_succ _ _ _).mpr ⟨_, hstep, ih hrest⟩

end Sys2Proof.Machine
end

section
/-! The ten playback operations (R121 to R131). `PlaybackRow` is the table of what each emits; both outcomes of `exec`
are read off it once, and a statement about one operation is its row with the clamped arguments put in. -/

namespace Sys2Proof.Machine

/-- What playback operation `i` emits in Ready on straps `c` with PAUSED = `p`: opcode and parameters (R121 to R130). -/
inductive PlaybackRow (c : Cfg) : Bool → Instr → Byte → Params → Prop where
  | setVolume (p : Bool) (level : Arg) :
      PlaybackRow c p (.setVolume level) (opc c c.variant .setVolume) (levelParams c level)
  | playByIndex (p : Bool) (index : Arg) :
      PlaybackRow c p (.playByIndex index) (opc c c.variant .playIndex) (indexParams c index)
  | playInFolder (p : Bool) (folder track : Arg) :
      PlaybackRow c p (.playInFolder folder track) (opc c c.variant .playFolderTrack) (folderTrackParams folder track)
  | playFromNamedFolder (p : Bool) (index : Arg) :
      PlaybackRow c p (.playFromNamedFolder index) (opc c c.variant .playMp3Folder) (indexParams c index)
  | setEqualizer (p : Bool) (mode : Arg) :
      PlaybackRow c p (.setEqualizer mode) (opc c c.variant .setEq) (.one (eqCode c mode))
  | setPlayMode (p : Bool) (mode : Arg) :
      PlaybackRow c p (.setPlayMode mode) (pmEntry c c.variant mode).cmd (pmEntry c c.variant mode).params
  | pause : PlaybackRow c false .pauseResume (opc c c.variant .pause) .none
  | resume : PlaybackRow c true .pauseResume (opc c c.variant .resume) .none
  | stop (p : Bool) : PlaybackRow c p .stop (opc c c.variant .stop) .none
  | next (p : Bool) : PlaybackRow c p .next (opc c c.variant .next) .none
  | prev (p : Bool) : PlaybackRow c p .prev (opc c c.variant .prev) .none

/-! ### What the model says of a row -/

section
variable {c : Cfg} {p : Bool} {i : Instr} {cmd : Byte} {ps : Params} {s : State}

theorem playbackRow_of_isPlayback (hi : isPlayback i = true) (c : Cfg) (p : Bool) :
    ∃ cmd ps, PlaybackRow c p i cmd ps := by
  cases i
  case pauseResume => cases p; exacts [⟨_, _, .pause⟩, ⟨_, _, .resume⟩]
  case setVolume | playByIndex | playInFolder | playFromNamedFolder | setEqualizer | setPlayMode | stop | next
      | prev => exact ⟨_, _, by constructor⟩
  all_goals cases hi

theorem isGuarded_of_playbackRow (h : PlaybackRow c p i cmd ps) : isGuarded i = true := by
  cases h <;> rfl

/-- EMIT with its frame byte by byte and every other field as it was (R105). -/
theorem emit_eq (cmd : Byte) (ps : Params) (s : State) :
    emit cmd ps s = { s with evlog := s.evlog ++ [.tx (frameTemplate s.cfg.variant cmd ps)] } := by
  rw [← frameOf_eq_template]
  rfl

theorem exec_pauseResume_of_playbackRow (h : PlaybackRow s.cfg p .pauseResume cmd ps) (hp : s.paused = p)
    (hr : s.init = true) : exec .pauseResume s = .next (setPaused (!p) (emit cmd ps s)) := by
  simp only [exec, execPauseResume, guarded_of_ready hr, hp]
  cases h <;> rfl

/-- Every other operation writes its frame whatever PAUSED is. -/
theorem exec_of_playbackRow (h : PlaybackRow s.cfg p i cmd ps) (hi : i ≠ .pauseResume) (hr : s.init = true) :
    exec i s = .next (emit cmd ps s) := by
  cases h
  case pause | resume => exact absurd rfl hi
  all_goals exact congrArg Host.Outcome.next (guarded_of_ready hr _)

/-- The two outcomes of an operation other than pauseResume. -/
theorem exec_playbackRow_outcomes (h : PlaybackRow s.cfg p i cmd ps) (hi : i ≠ .pauseResume) :
    (s.init = false → exec i s = .next s) ∧
    (s.init = true →
      exec i s = .next { s with evlog := s.evlog ++ [.tx (frameTemplate s.cfg.variant cmd ps)] }) := by
  constructor
  · exact exec_of_isGuarded_of_uninit (isGuarded_of_playbackRow h)
  · intro hr
    rw [exec_of_playbackRow h hi hr, emit_eq]

end

/-! ### Modes as table indexes (R85, R86) -/

/-- `EQ_CODE` at the clamped mode. -/
theorem eqCode_of_nearest {c : Cfg} {mode : Arg} {m : Nat} {e : Byte} (h : NearestIn mode.toInt 0 5 m)
    (he : [c.eqCode.eq0, c.eqCode.eq1, c.eqCode.eq2, c.eqCode.eq3, c.eqCode.eq4, c.eqCode.eq5][m]? = some e) :
    eqCode c mode = e := by
  rw [eqCode, clamp_of_nearest h (by decide), Int.toNat_natCast]
  match m, he with
  | 0, he | 1, he | 2, he | 3, he | 4, he | 5, he => exact Option.some.inj he

/-- `PM_TABLE` of variant `v` at the clamped mode. -/
theorem pmEntry_of_nearest {c : Cfg} {v : Variant} {mode : Arg} {m : Nat} {entry : PmEntry}
    (h : NearestIn mode.toInt 0 3 m)
    (he : [(pmTable c v).loopOff, (pmTable c v).repeatCurrent, (pmTable c v).loopAll, (pmTable c v).shuffle][m]? =
      some entry) :
    pmEntry c v mode = entry := by
  rw [pmEntry, clamp_of_nearest h (by decide), Int.toNat_natCast]
  match m, he with
  | 0, he | 1, he | 2, he | 3, he => exact Option.some.inj he

/-! ### One operation each -/

/-- Settles O27, by the row of setVolume. -/
theorem setVolumeWritesTheClampedLevel : Obligations.SetVolumeWritesTheClampedLevel := by
  unfold Obligations.SetVolumeWritesTheClampedLevel
  intro s level n h
  have hrow := PlaybackRow.setVolume (c := s.cfg) s.paused level
  rw [levelParams_of_nearest h] at hrow
  exact exec_playbackRow_outcomes hrow nofun

/-- Settles O28, by the row of playByIndex. -/
theorem playByIndexWritesTheClampedIndex : Obligations.PlayByIndexWritesTheClampedIndex := by
  unfold Obligations.PlayByIndexWritesTheClampedIndex
  intro s index n h
  have hopc : (match s.cfg.variant with | .C => s.cfg.opcC.playIndex | .S => 0xA0#8) =
      opc s.cfg s.cfg.variant .playIndex := by
    cases s.cfg.variant <;> rfl
  have hrow := PlaybackRow.playByIndex (c := s.cfg) s.paused index
  rw [indexParams_of_nearest h, ← hopc] at hrow
  exact exec_playbackRow_outcomes hrow nofun

/-- Settles O29, by the row of playInFolder. -/
theorem playInFolderWritesFolderAndTrack : Obligations.PlayInFolderWritesFolderAndTrack := by
  unfold Obligations.PlayInFolderWritesFolderAndTrack
  intro s folder track f t hf ht
  have hopc : (match s.cfg.variant with | .C => 0x0F#8 | .S => s.cfg.opcS.playFolderTrack) =
      opc s.cfg s.cfg.variant .playFolderTrack := by
    cases s.cfg.variant <;> rfl
  have hrow := PlaybackRow.playInFolder (c := s.cfg) s.paused folder track
  rw [folderTrackParams_of_nearest hf ht, ← hopc] at hrow
  exact exec_playbackRow_outcomes hrow nofun

/-- Settles O30, by the row of playFromNamedFolder. -/
theorem playFromNamedFolderWritesTheClampedIndex : Obligations.PlayFromNamedFolderWritesTheClampedIndex := by
  unfold Obligations.PlayFromNamedFolderWritesTheClampedIndex
  intro s index n h
  have hrow := PlaybackRow.playFromNamedFolder (c := s.cfg) s.paused index
  rw [indexParams_of_nearest h] at hrow
  exact exec_playbackRow_outcomes hrow nofun

/-- Settles O31, by the row of setEqualizer. -/
theorem setEqualizerWritesTheModesCode : Obligations.SetEqualizerWritesTheModesCode := by
  unfold Obligations.SetEqualizerWritesTheModesCode
  intro s mode m e h he
  have hrow := PlaybackRow.setEqualizer (c := s.cfg) s.paused mode
  rw [eqCode_of_nearest h he] at hrow
  exact exec_playbackRow_outcomes hrow nofun

/-- Settles O32, by the row of setPlayMode. -/
theorem setPlayModeWritesTheTableEntry : Obligations.SetPlayModeWritesTheTableEntry := by
  unfold Obligations.SetPlayModeWritesTheTableEntry
  intro s mode m tbl entry h htbl he
  have htable : tbl = pmTable s.cfg s.cfg.variant := by
    rw [htbl]
    cases s.cfg.variant <;> rfl
  subst htable
  have hrow := PlaybackRow.setPlayMode (c := s.cfg) s.paused mode
  rw [pmEntry_of_nearest h he] at hrow
  exact exec_playbackRow_outcomes hrow nofun

/-- Settles O33, by the two rows of pauseResume. -/
theorem pauseResumeTogglesAndWrites : Obligations.PauseResumeTogglesAndWrites := by
  unfold Obligations.PauseResumeTogglesAndWrites
  intro s
  refine ⟨exec_of_isGuarded_of_uninit rfl, ?_, ?_⟩
  · intro hr hp
    rw [exec_pauseResume_of_playbackRow .pause hp hr, emit_eq]
    rfl
  · intro hr hp
    rw [exec_pauseResume_of_playbackRow .resume hp hr, emit_eq]
    rfl

/-- Settles O34, by the rows of the three. -/
theorem stopNextPrevWriteTheirOpcode : Obligations.StopNextPrevWriteTheirOpcode := by
  unfold Obligations.StopNextPrevWriteTheirOpcode
  intro s i k h
  simp only [List.mem_cons, Prod.mk.injEq, List.not_mem_nil, or_false] at h
  obtain ⟨rfl, rfl⟩ | ⟨rfl, rfl⟩ | ⟨rfl, rfl⟩ := h
  · exact exec_playbackRow_outcomes (.stop s.paused) nofun
  · exact exec_playbackRow_outcomes (.next s.paused) nofun
  · exact exec_playbackRow_outcomes (.prev s.paused) nofun

/-! ### Any operation, and two toggles -/

/-- Settles O35: the row depends on the straps and, for pauseResume, on PAUSED alone. -/
theorem playbackWritesExactlyOneFrame : Obligations.PlaybackWritesExactlyOneFrame := by
  unfold Obligations.PlaybackWritesExactlyOneFrame
  intro i s hi _
  obtain ⟨cmd, ps, hrow⟩ := playbackRow_of_isPlayback hi s.cfg s.paused
  refine ⟨frameTemplate s.cfg.variant cmd ps, fun s' hc hr hp => ?_⟩
  rw [← hc] at hrow ⊢
  by_cases htoggle : i = .pauseResume
  · subst htoggle
    rw [exec_pauseResume_of_playbackRow hrow (hp rfl) hr, emit_eq, if_pos rfl, hp rfl]
    rfl
  · rw [exec_of_playbackRow hrow htoggle hr, emit_eq, if_neg htoggle]

/-- Settles O47: the first pauseResume finds PAUSED = 0, the second PAUSED = 1. -/
theorem twoTogglesPauseThenResume : Obligations.TwoTogglesPauseThenResume := by
  unfold Obligations.TwoTogglesPauseThenResume
  intro s t u hr hp ht hu
  obtain ⟨-, hpause, -⟩ := pauseResumeTogglesAndWrites s
  rw [hpause hr hp] at ht
  cases ht
  obtain ⟨-, -, hresume⟩ := pauseResumeTogglesAndWrites
    { s with paused := true, evlog := s.evlog ++
      [.tx (frameTemplate s.cfg.variant (opc s.cfg s.cfg.variant .pause) .none)] }
  rw [hresume hr rfl] at hu
  cases hu
  simp [hp]

end Sys2Proof.Machine
end

section
/-! The system operations (R150 to R152): what init, selectDevice and a reserved selector do in either state, and what
no instruction but init does (R153). -/

namespace Sys2Proof.Machine

/-! ### One operation each -/

/-- Two events one after the other, with every other field as it was (R31). -/
theorem logEvent_logEvent (e e' : Event) (s : State) :
    logEvent e' (logEvent e s) = { s with evlog := s.evlog ++ [e, e'] } := by
  simp [logEvent]

/-- Settles O22: TCFG and INIT are written, and then the two events. -/
theorem initConfiguresThenWaits : Obligations.InitConfiguresThenWaits := by
  unfold Obligations.InitConfiguresThenWaits
  intro s tx rx baud
  exact congrArg Host.Outcome.next
    (logEvent_logEvent (.config tx rx baud) (.delay (tInitMs s.cfg)) (setInit (setTcfg tx rx baud s)))

/-- EMIT and then a delay, the frame byte by byte (R105, R151). -/
theorem delay_emit_eq (ms : Nat) (cmd : Byte) (ps : Params) (s : State) :
    delay ms (emit cmd ps s) =
      { s with evlog := s.evlog ++ [.tx (frameTemplate s.cfg.variant cmd ps), .delay ms] } := by
  rw [← frameOf_eq_template]
  exact logEvent_logEvent (.tx (frameOf s.cfg.variant cmd ps)) (.delay ms) s

theorem exec_selectDevice_of_ready {s : State} (hr : s.init = true) :
    exec .selectDevice s =
      .next (delay s.cfg.tSelMs
        (emit (opc s.cfg s.cfg.variant .selectDevice) (.one (selParam s.cfg s.cfg.variant)) s)) :=
  congrArg Host.Outcome.next (guarded_of_ready hr _)

/-- Settles O23, by the guard in Uninitialized and the two events in Ready. -/
theorem selectDeviceWritesThenWaits : Obligations.SelectDeviceWritesThenWaits := by
  unfold Obligations.SelectDeviceWritesThenWaits
  intro s
  constructor
  · exact exec_of_isGuarded_of_uninit rfl
  · intro hr
    have hparam : (match s.cfg.variant with | .C => s.cfg.selParamC | .S => s.cfg.selParamS) =
        selParam s.cfg s.cfg.variant := by
      cases s.cfg.variant <;> rfl
    have hexec := exec_selectDevice_of_ready hr
    rw [delay_emit_eq, ← hparam] at hexec
    exact hexec

theorem exec_reserved (op : Byte) (s : State) : exec (.reserved op) s = .next s := rfl

/-- Which request words have a reserved selector (R76, R87). -/
theorem reservedSelector_opField_iff (q : Request) :
    reservedSelector (opField q) = true ↔ q.toNat / 2 ^ 64 = 0x00 ∨ 0x0D ≤ q.toNat / 2 ^ 64 := by
  rw [← opField_toNat]
  simp [reservedSelector, BitVec.ule, ← BitVec.toNat_inj]

/-- Settles O24: such a word decodes to `reserved`, which does nothing. -/
theorem reservedSelectorsAreConsumed : Obligations.ReservedSelectorsAreConsumed := by
  unfold Obligations.ReservedSelectorsAreConsumed
  constructor
  · intro s op
    exact exec_reserved op s
  · intro s q rest hp hq
    have hdec : decodeRequest q = .reserved (opField q) :=
      decodeRequest_of_reserved ((reservedSelector_opField_iff q).mpr hq)
    rw [step_of_decode_ok (p := .command q) hp rfl, hdec, exec_reserved]

/-! ### What init alone does

The clauses of R153, each read off the effects an instruction other than init can have. -/

section
variable {i : Instr} {s t : State}

theorem effect_tcfg_of_not_init (h : Effect i s t) (hi : isInit i = false) : t.tcfg = s.tcfg := by
  cases h with
  | init tx rx baud hinit => subst hinit; cases hi
  | none | reply | write | select | toggle => rfl

theorem effect_init_of_not_init (h : Effect i s t) (hi : isInit i = false) : t.init = s.init := by
  cases h with
  | init tx rx baud hinit => subst hinit; cases hi
  | none | reply | write | select | toggle => rfl

/-- What is appended holds no `CFG` element, and a `DELAY` only for selectDevice. -/
theorem effect_events_of_not_init (h : Effect i s t) (hi : isInit i = false) :
    ∃ es, t.evlog = s.evlog ++ es ∧ ∀ e ∈ es, e.isConfig = false ∧ (e.isDelay = true → i = .selectDevice) := by
  cases h with
  | init tx rx baud hinit => subst hinit; cases hi
  | none | reply => exact ⟨[], (List.append_nil _).symm, nofun⟩
  | write hr cmd ps | toggle hr _ cmd ps =>
    exact ⟨[.tx (frameOf s.cfg.variant cmd ps)], rfl, List.forall_mem_singleton.mpr ⟨rfl, nofun⟩⟩
  | select hr hsel cmd ps =>
    refine ⟨[.tx (frameOf s.cfg.variant cmd ps), .delay (tSelMs s.cfg)], List.append_assoc _ _ _, ?_⟩
    exact List.forall_mem_cons.mpr ⟨⟨rfl, nofun⟩, List.forall_mem_singleton.mpr ⟨rfl, fun _ => hsel⟩⟩

/-- In Uninitialized only the codec port still answers (R107, R120). -/
theorem effect_uninit_of_not_init (h : Effect i s t) (hi : isInit i = false) (hu : s.init = false) :
    t = s ∨ ∃ f, t = reply f s := by
  cases h with
  | init tx rx baud hinit => subst hinit; cases hi
  | none => exact .inl rfl
  | reply f => exact .inr ⟨f, rfl⟩
  | write hr | select hr | toggle hr => simp [hu] at hr

/-- So the sequencer is left as it was. -/
theorem effect_sequencer_of_uninit (h : Effect i s t) (hi : isInit i = false) (hu : s.init = false) :
    t.evlog = s.evlog ∧ t.paused = s.paused := by
  obtain rfl | ⟨f, rfl⟩ := effect_uninit_of_not_init h hi hu <;> exact ⟨rfl, rfl⟩

end

/-- Settles O25: of init only the growth of the log is asked; every other instruction by the clauses above. -/
theorem onlyInitConfigures : Obligations.OnlyInitConfigures := by
  unfold Obligations.OnlyInitConfigures
  intro i s t h
  have he := exec_effect h
  cases hi : isInit i with
  | true =>
    obtain ⟨es, hes⟩ := effect_evlog_prefix he
    exact ⟨es, hes.symm, fun _ _ _ => .inl rfl, fun _ _ _ => rfl, fun _ => rfl, fun _ => rfl, fun _ _ => rfl⟩
  | false =>
    obtain ⟨es, hlog, hes⟩ := effect_events_of_not_init he hi
    have htcfg := effect_tcfg_of_not_init he hi
    have hinit := effect_init_of_not_init he hi
    refine ⟨es, hlog, fun e hmem hd => .inr ((hes e hmem).2 hd), fun e hmem hc => ?_,
      fun hne => absurd htcfg hne, fun hne => absurd hinit hne, fun hu hact => ?_⟩
    · exact absurd hc (Bool.eq_false_iff.mp (hes e hmem).1)
    · obtain ⟨hsame, hpaused⟩ := effect_sequencer_of_uninit he hi hu
      have hnil : es = [] := List.self_eq_append_right.mp (hsame.symm.trans hlog)
      obtain hne | hne | hne | hne := hact
      · exact absurd hnil hne
      · exact absurd hpaused hne
      · exact absurd htcfg hne
      · exact absurd hinit hne

end Sys2Proof.Machine
end

section
/-! Runs a host can form (R160, R167): each step answers and takes one word off the list, and what is left can be formed
as well; with nothing presented a step waits (R171, R183). -/

namespace Sys2Proof.Machine

theorem step_of_nothing_presented {s : State} (hp : s.pending = []) : step s = .next s := by
  simp only [step, hp]

/-- Settles O2, by the first case of `step`. -/
theorem stepWaitsForARequest : Obligations.StepWaitsForARequest := by
  unfold Obligations.StepWaitsForARequest
  intro s hp
  exact step_of_nothing_presented hp

/-- A word a host can form decodes, and its instruction answers: the only refusal left to a host's call is of a list
longer than `NPARAM_MAX` (R87, R108). -/
theorem decode_exec_answers_of_hostCanForm {s : State} {p : PortWord} (h : hostCanForm s.cfg p = true) :
    ∃ i t, decode s.cfg p = .ok i ∧ exec i s = .next t := by
  cases p with
  | command q =>
    obtain ⟨t, ht⟩ := exec_answers_on_command_port (port_decodeRequest q) s
    exact ⟨_, t, rfl, ht⟩
  | codecC cmd dh dl => exact ⟨_, _, rfl, exec_buildC cmd dh dl s⟩
  | codecS cmd ps => exact ⟨_, _, rfl, exec_buildS_of_fits (of_decide_eq_true h) cmd⟩
  | wire f => cases h

/-- A step answers, keeps `CFG`, and takes the head off the list where there is one. -/
theorem step_answers_of_hostCanForm {s : State} (h : ∀ p ∈ s.pending, hostCanForm s.cfg p = true) :
    ∃ t, step s = .next t ∧ t.cfg = s.cfg ∧ t.pending = s.pending.drop 1 := by
  cases hp : s.pending with
  | nil => exact ⟨s, step_of_nothing_presented hp, rfl, hp⟩
  | cons p rest =>
    have hhead : hostCanForm s.cfg p = true := h p (hp ▸ List.mem_cons_self)
    obtain ⟨i, t, hd, ht⟩ := decode_exec_answers_of_hostCanForm (s := { s with pending := rest }) hhead
    have hcfg := effect_cfg (exec_effect ht)
    have hpending := effect_pending (exec_effect ht)
    exact ⟨t, (step_of_decode_ok hp hd).trans ht, hcfg, hpending⟩

/-- Settles O43, by induction on the steps: each answers, and leaves a list a host can form under the same `CFG`. -/
theorem hostRunsNeverStop : Obligations.HostRunsNeverStop := by
  unfold Obligations.HostRunsNeverStop
  intro k
  induction k with
  | zero => exact fun s _ => ⟨s, rfl, rfl⟩
  | succ k ih =>
    intro s h
    obtain ⟨u, hstep, hcfg, hpending⟩ := step_answers_of_hostCanForm h
    have hu : ∀ p ∈ u.pending, hostCanForm u.cfg p = true := by
      rw [hcfg, hpending]
      exact fun p hmem => h p (List.mem_of_mem_drop hmem)
    obtain ⟨t, hrun, hend⟩ := ih u hu
    refine ⟨t, (run_succ _ _ _).mpr ⟨u, hstep, hrun⟩, ?_⟩
    rw [hend, hpending, List.drop_drop, Nat.add_comm]

end Sys2Proof.Machine
end
